-- ==== Sys2Proof/Word.lean ====
section
/-! DEFINITION. The word types of the block, each at the width rule R6 and rule R20 give it. Bit 0 is the least significant
bit and every value is unsigned (rule R7). -/

namespace Sys2Proof

/-- An 8-bit event word (rule R70). -/
abbrev EventWord := BitVec 8

/-- A timer count or a decoded value: `TIMER_WIDTH` = `DV_WIDTH` = 8 (rules R6, R21, R26). -/
abbrev Count := BitVec 8

/-- A pulse tick: `PULSE_TICK_WIDTH` = 9; the legal values are 0..271 (rules R6, R24; conflict C1). -/
abbrev PulseTick := BitVec 9

/-- A flash tick: `FLASH_TICK_WIDTH` = 8; the legal values are 0..33 (rules R6, R25). -/
abbrev FlashTick := BitVec 8

/-- A mode code: `MODE_WIDTH` = 3; codes 0..5 are modes, 6 and 7 reserved (rule R75). -/
abbrev ModeCode := BitVec 3

end Sys2Proof
end

