-- ==== Sys2Proof/Syntax.lean ====
section
/-! DEFINITION. The event words of rule R71 as an inductive type: one constructor per row of spec/opcode_table.json. An event
word has no operand, immediate or register field (rule R74), so no constructor has an argument. -/

namespace Sys2Proof

/-- The steps and the internal timer micro-operations of the opcode table (rule R71). -/
inductive Instr where
  /-- EDGE: `on_edge()` (rule R110). -/
  | edge
  /-- TCLK: one timer count (rule R104). -/
  | tclk
  /-- TMO: `on_timeout()` (rule R112). -/
  | tmo
  /-- PSNAP: the main loop's snapshot (rule R141). -/
  | psnap
  /-- PCOMMIT: the main loop's evaluation and write-back (rule R142). -/
  | pcommit
  /-- RST: reset (rule R180). -/
  | rst
  /-- T.START: timer `start()`, internal (rule R101). -/
  | tStart
  /-- T.STOPRD: timer `stop_and_read()`, internal (rule R102). -/
  | tStoprd
  /-- T.CLR: timer `reset()`, internal (rule R103). -/
  | tClr
  deriving DecidableEq, Repr

/-- The mnemonic of the opcode table, by which an event word is refused by name (rules R71, R72). -/
def Instr.mnemonic : Instr → String
  | .edge => "EDGE"
  | .tclk => "TCLK"
  | .tmo => "TMO"
  | .psnap => "PSNAP"
  | .pcommit => "PCOMMIT"
  | .rst => "RST"
  | .tStart => "T.START"
  | .tStoprd => "T.STOPRD"
  | .tClr => "T.CLR"

end Sys2Proof
end

