-- ==== Sys2Proof/Machine/State.lean ====
section
/-! DEFINITION. The block's whole state (rule R20), as plain data, with its reset values (rules R20, R180), and the reasons a
step can stop. -/

namespace Sys2Proof.Machine

/-- An abstract output level: Active is encoded 1, Inactive 0 (rules R9, R77). -/
inductive Level where
  | inactive
  | active
  deriving DecidableEq, Repr

/-- The main loop's sequencing state (rule R30). -/
inductive PollPhase where
  | idle
  | snapped
  deriving DecidableEq, Repr

/-- The snapshot registers `Snap.*` (rule R31): the copy PSNAP takes of the five shared cells. -/
structure Snapshot where
  measuring : Bool
  dv : Count
  fault : Bool
  pulseTick : PulseTick
  flashTick : FlashTick
  deriving DecidableEq, Repr

/-- The block's cells (rule R20), the record of its `wdt_ack` port, and the environment's choice of steps. -/
structure State where
  /-- The last measured count, or the fallback (rule R21; conflict C15). -/
  decodedValue : Count
  /-- A measurement is running (rule R22). -/
  measuring : Bool
  /-- A measurement timed out, and no edge has come since (rule R23). -/
  fault : Bool
  /-- Measurement starts modulo 272 (rule R24). -/
  pulseTick : PulseTick
  /-- Measurement starts modulo 34 (rule R25). -/
  flashTick : FlashTick
  /-- The Pulse Timer's count (rule R26). -/
  timerCount : Count
  /-- Whether the Pulse Timer counts (rule R27). -/
  timerRunning : Bool
  /-- The latched overflow event (rule R28). -/
  ovfPending : Bool
  /-- The code of the commanded mode (rules R29, R75). -/
  prevMode : ModeCode
  /-- The main loop's phase (rule R30). -/
  pollPhase : PollPhase
  /-- The snapshot registers (rule R31). -/
  snap : Snapshot
  /-- The level of the controlled output (rule R32). -/
  lightOut : Level
  /-- The level of the fault indicator (rule R33). -/
  indicatorOut : Level
  /-- Acknowledge events emitted on `wdt_ack` since the last RST (rules R35, R144). The model's own record of an output port:
  DEDUCED, notes/assumptions/6.md. -/
  acks : Nat
  /-- The event words the environment has chosen and the block has not yet taken, the next one first (rules R56, R70, R79).
  The model's own field: DESIGN CHOICE, notes/assumptions/1.md; safe. -/
  trace : List EventWord
  /-- How many steps the environment has chosen freely: the argument of the free value `Config.freeChoice`. The model's own
  field: DESIGN CHOICE, notes/assumptions/2.md; safe. -/
  choices : Nat
  deriving DecidableEq, Repr

/-- What an Unreachable fault met (rule R8, `fault Unreachable(info)`). -/
inductive Unreachable where
  /-- A PulseTick outside 0..271 or a FlashTick outside 0..33 (rule R111, U7). -/
  | counter
  /-- A window lookup that no triple matches (rule R126, U7). -/
  | lookup
  /-- A PrevMode holding a reserved code (rule R75, U8). -/
  | mode
  deriving DecidableEq, Repr

/-- The model's faults. -/
inductive Fault where
  /-- Raised by EDGE (start branch) and PCOMMIT when they meet a value the invariants of rule R39 exclude; it ends the run
  and is never cleared (rule R167). Safe: the spec itself ends the run there. -/
  | unreachable (info : Unreachable)
  deriving DecidableEq, Repr

/-- Why a step has no transition. -/
inductive Refusal where
  /-- An instruction without a meaning: raised by no arm of this model. Safe. -/
  | notModelled (mnemonic : String)
  /-- Raised by TMO, PSNAP and PCOMMIT when they are not enabled: the trace is stuck at that word, "That is not a fault"
  (rule R73, U11). Safe. -/
  | notEnabled (mnemonic : String)
  /-- Raised by the event interface (`fetch`) at the word of an internal micro-operation, "refused at the event interface"
  (rule R72, U10). Safe. -/
  | internalWord (mnemonic : String)
  /-- Raised by the event interface (`fetch`) at a reserved word (rule R72, U9). Safe. -/
  | invalidWord (w : EventWord)
  deriving DecidableEq, Repr

/-- The state right after RST (rules R20, R180), with nothing chosen by the environment yet. PrevMode is Undefined, code 5
(rule R75). -/
def State.reset : State where
  decodedValue := 0
  measuring := false
  fault := false
  pulseTick := 0
  flashTick := 0
  timerCount := 0
  timerRunning := false
  ovfPending := false
  prevMode := 5
  pollPhase := .idle
  snap := { measuring := false, dv := 0, fault := false, pulseTick := 0, flashTick := 0 }
  lightOut := .inactive
  indicatorOut := .inactive
  acks := 0
  trace := []
  choices := 0

end Sys2Proof.Machine
end

