-- ==== Sys2Proof/Machine/Operands.lean ====
section
/-! DEFINITION. The value encodings of rules R75, R77 and R78: the only operand-like encodings of the block, since event words
have no operand (rule R74). Mode codes, output levels, window triples. -/

namespace Sys2Proof.Machine

/-- The modes of rule R75. OperationMode is computed, not stored (rule R34). -/
inductive Mode where
  | off
  | on
  | blink
  | flash
  | sos
  | undefined
  deriving DecidableEq, Repr

/-- The 3-bit code of a mode (rule R75). -/
def Mode.code : Mode → ModeCode
  | .off => 0
  | .on => 1
  | .blink => 2
  | .flash => 3
  | .sos => 4
  | .undefined => 5

/-- The mode of a 3-bit code; `none` for the reserved codes 6 and 7 (rule R75). -/
def Mode.ofCode (c : ModeCode) : Option Mode :=
  match c.toNat with
  | 0 => some .off
  | 1 => some .on
  | 2 => some .blink
  | 3 => some .flash
  | 4 => some .sos
  | 5 => some .undefined
  | _ => none

/-- A flag as an output level: Active = 1, Inactive = 0 (rule R77). -/
def levelOf (b : Bool) : Level := if b then .active else .inactive

/-- The electrical level of an output port, `true` for high: high for Active when the polarity parameter holds, low
otherwise; and the reverse (rule R35). -/
def electrical (activeHigh : Bool) (l : Level) : Bool :=
  match l with
  | .active => activeHigh
  | .inactive => !activeHigh

/-- A window: the half-open interval start <= t < stop of pulse ticks with its level (rule R78). -/
structure Window where
  start : Nat
  stop : Nat
  level : Level
  deriving DecidableEq, Repr

/-- Whether a window holds a tick (rule R78). -/
def Window.covers (w : Window) (t : Nat) : Bool := decide (w.start ≤ t) && decide (t < w.stop)

/-- The level of the triple that holds `t`, `none` when no triple does (rule R126). -/
def lookup (table : List Window) (t : Nat) : Option Level := (table.find? (·.covers t)).map Window.level

end Sys2Proof.Machine
end

