-- ==== Sys2Proof/Config.lean ====
section
/-! DEFINITION. What the spec leaves OPEN (rule R6) and the free values of the model. Every constant here is opaque: no proof
can see its value, so a theorem of the model holds for each value the spec admits (notes/assumptions/2.md, 7.md, 8.md). -/

namespace Sys2Proof

/-- Which of the 14 values 91..104 `FALLBACK_VALUE` is (rules R6, R112; decision D10). `Machine.fallbackValue` is the value. -/
opaque Config.fallbackIndex : Fin 14

/-- `OVF_CLR_ON_RESET`: whether T.CLR also cancels a latched overflow (rules R6, R103; decision D8). -/
opaque Config.ovfClrOnReset : Bool

/-- `LIGHT_ACTIVE_HIGH`: electrical polarity of the port `light_out` (rules R6, R35; decision D21). -/
opaque Config.lightActiveHigh : Bool

/-- `IND_ACTIVE_HIGH`: electrical polarity of the port `fault_ind_out` (rules R6, R35; decision D21). -/
opaque Config.indActiveHigh : Bool

/-- `TIMER_TICK_PERIOD`: time per TCLK step. Timing only: "no rule depends on it" (rules R6, R100; decision D35), and
nothing in the model reads it. -/
opaque Config.timerTickPeriod : Nat

/-- `WDT_PERIOD`: the watchdog's period. Timing only: "no rule depends on it" (rules R6, R144; decision D20), and nothing in
the model reads it. -/
opaque Config.wdtPeriod : Nat

/-- FREE VALUE: the environment's n-th free choice among the enabled steps (rule R56: "Which enabled step comes next is
free"). Nothing constrains it. DESIGN CHOICE of its form: notes/assumptions/2.md; safe. -/
opaque Config.freeChoice : Nat → Nat

end Sys2Proof
end

