-- ==== Sys2Proof/Machine/Params.lean ====
section
/-! DEFINITION. The named constants of rule R6 (each a source or decided value, U13) and the fallback value. -/

namespace Sys2Proof.Machine

/-- `TIMER_MAX` = 255 (rule R6). -/
abbrev timerMax : Count := 255

/-- `PULSE_PERIOD` = 272 (rule R6). -/
abbrev pulsePeriod : Nat := 272

/-- `FLASH_PERIOD` = 34 (rule R6). -/
abbrev flashPeriod : Nat := 34

/-- `BLINK_PERIOD` = 16 (rule R6). -/
abbrev blinkPeriod : Nat := 16

/-- `BLINK_ON` = 8 (rule R6). -/
abbrev blinkOn : Nat := 8

/-- Off lies strictly between this bound and `onLow` (rules R6, R120). -/
abbrev offLow : Nat := 75

/-- On lies strictly between this bound and `blinkLow`. -/
abbrev onLow : Nat := 90

/-- Blink lies strictly between this bound and `flashLow`. -/
abbrev blinkLow : Nat := 105

/-- Flash lies strictly between this bound and `sosLow`. -/
abbrev flashLow : Nat := 120

/-- SOS lies strictly between this bound and `sosHigh`. -/
abbrev sosLow : Nat := 135

/-- The exclusive upper bound of SOS. -/
abbrev sosHigh : Nat := 150

/-- `FALLBACK_VALUE`: some value with 90 < value < 105, left open (rules R6, R112; decision D10). -/
def fallbackValue : Count := BitVec.ofNat 8 (onLow + 1 + Config.fallbackIndex.val)

end Sys2Proof.Machine
end

