-- ==== Sys2Proof/Machine/Ops.lean ====
section
/-! DEFINITION. The named operations over the cells. The block has no memory and no register file (rules R36, R50), and taking
an event saves nothing, changes no mode and goes to no vector (rule R166): a handler is a step of its own, in Decoder.lean. -/

namespace Sys2Proof.Machine

/-- The effect of T.START: `TimerRunning <- 1` (rule R101). -/
def timerStart (s : State) : State := { s with timerRunning := true }

/-- The state after T.STOPRD: `TimerRunning <- 0` (rule R102). -/
def timerStop (s : State) : State := { s with timerRunning := false }

/-- The result of T.STOPRD: the count (rule R102). -/
def timerRead (s : State) : Count := s.timerCount

/-- The effect of T.CLR: `TimerCount <- 0`, and `OvfPending <- 0` when the parameter `OVF_CLR_ON_RESET`, given as
`cancels`, holds (rule R103). -/
def timerClear (cancels : Bool) (s : State) : State :=
  { s with timerCount := 0, ovfPending := s.ovfPending && !cancels }

/-- Write TimerCount. -/
def setTimerCount (c : Count) (s : State) : State := { s with timerCount := c }

/-- Write DecodedValue. -/
def writeDecoded (v : Count) (s : State) : State := { s with decodedValue := v }

/-- `AdvP` and `AdvF`: (t + 1) mod period for a legal tick, an Unreachable fault for any other (rule R111). -/
def advance {w : Nat} (period : Nat) (t : BitVec w) : Except Unreachable (BitVec w) :=
  if t.toNat < period then .ok (BitVec.ofNat w ((t.toNat + 1) % period)) else .error .counter

/-- Write the two tick counters. -/
def setTicks (p : PulseTick) (f : FlashTick) (s : State) : State := { s with pulseTick := p, flashTick := f }

/-- Apply the generator's two clear requests (rule R142): an unconditional write of 0 (rule R187). -/
def clearTicks (clrF clrP : Bool) (s : State) : State :=
  { s with
    flashTick := if clrF then 0 else s.flashTick
    pulseTick := if clrP then 0 else s.pulseTick }

/-- Copy the five shared cells into the snapshot registers (rule R141). -/
def takeSnapshot (s : State) : State :=
  { s with
    snap :=
      { measuring := s.measuring
        dv := s.decodedValue
        fault := s.fault
        pulseTick := s.pulseTick
        flashTick := s.flashTick } }

/-- Write PollPhase (rule R30). -/
def setPollPhase (p : PollPhase) (s : State) : State := { s with pollPhase := p }

/-- Write PrevMode (rule R29). -/
def setPrevMode (m : ModeCode) (s : State) : State := { s with prevMode := m }

/-- Write the two output latches (rules R32, R33). -/
def writeOutputs (light ind : Level) (s : State) : State := { s with lightOut := light, indicatorOut := ind }

/-- `emit Ack`: one acknowledge event on `wdt_ack` (rules R8, R144). -/
def emitAck (s : State) : State := { s with acks := s.acks + 1 }

/-- Every cell to its reset value (rule R180). The environment's choices are no cells of the block (rule R38) and stay. -/
def resetCells (s : State) : State := { State.reset with trace := s.trace, choices := s.choices }

/-- The port `light_out`, `true` for electrically high (rule R35). -/
def lightOutPort (s : State) : Bool := electrical Config.lightActiveHigh s.lightOut

/-- The port `fault_ind_out`, `true` for electrically high (rule R35). -/
def faultIndPort (s : State) : Bool := electrical Config.indActiveHigh s.indicatorOut

end Sys2Proof.Machine
end

