-- ==== Sys2Proof/Machine/Flags.lean ====
section
/-! DEFINITION. The flag cells (Measuring, Fault, OvfPending), and the enabling conditions they and PollPhase give (rules R22,
R23, R28, R73). -/

namespace Sys2Proof.Machine

/-- Write Measuring (rule R22). -/
def setMeasuring (b : Bool) (s : State) : State := { s with measuring := b }

/-- Write Fault (rule R23). -/
def setFault (b : Bool) (s : State) : State := { s with fault := b }

/-- Write OvfPending (rule R28). -/
def setOvfPending (b : Bool) (s : State) : State := { s with ovfPending := b }

/-- Whether a step is enabled: TMO needs OvfPending = 1, PSNAP needs Idle, PCOMMIT needs Snapped, EDGE, TCLK and RST are
always enabled (rule R73); an internal micro-operation is no step of any agent (rule R72). -/
def enabled (s : State) : Instr → Bool
  | .edge => true
  | .tclk => true
  | .tmo => s.ovfPending
  | .psnap => decide (s.pollPhase = .idle)
  | .pcommit => decide (s.pollPhase = .snapped)
  | .rst => true
  | .tStart => false
  | .tStoprd => false
  | .tClr => false

/-- The steps of the five agents (rule R5) that are enabled. EDGE, TCLK and RST always stand among them (rule R73). -/
def enabledSteps (s : State) : List Instr :=
  [Instr.edge, .tclk, .tmo, .psnap, .pcommit, .rst].filter (enabled s)

end Sys2Proof.Machine
end

