-- ==== Sys2Proof/Machine/Timer.lean ====
section
/-! DEFINITION. The Pulse Timer (rules R100-R106): TCLK and the three internal micro-operations. -/

namespace Sys2Proof.Machine

/-- One count of a running timer: 255 wraps to 0 and latches the overflow event (rules R104, R105). -/
def countOnce (s : State) : State :=
  if s.timerCount = timerMax then setOvfPending true (setTimerCount 0 s)
  else setTimerCount (s.timerCount + 1) s

/-- TCLK (rule R104). -/
def execTclk (s : State) : Host.Outcome State Fault Refusal :=
  if s.timerRunning then .next (countOnce s) else .next s

/-- T.START (rule R101): the micro-operation's effect. The event interface refuses its word (rule R72). -/
def execTStart (s : State) : Host.Outcome State Fault Refusal := .next (timerStart s)

/-- T.STOPRD (rule R102): the micro-operation's effect on the cells. Its result `timerRead s` goes to the caller, and there is
no cell to hold it (notes/assumptions/12.md). The event interface refuses its word (rule R72). -/
def execTStoprd (s : State) : Host.Outcome State Fault Refusal := .next (timerStop s)

/-- T.CLR (rule R103): the micro-operation's effect. The event interface refuses its word (rule R72). -/
def execTClr (s : State) : Host.Outcome State Fault Refusal := .next (timerClear Config.ovfClrOnReset s)

end Sys2Proof.Machine
end

