-- ==== Sys2Proof/Machine/Decoder.lean ====
section
/-! DEFINITION. The Pulse-Width Decoder's two handlers (rules R110-R116), each one atomic step (rule R57). -/

namespace Sys2Proof.Machine

/-- The start branch of `on_edge()` (rule R110): start the timer and advance both counters (rule R111). -/
def startMeasurement (s : State) : Except Unreachable State :=
  match advance pulsePeriod s.pulseTick with
  | .error u => .error u
  | .ok p =>
    match advance flashPeriod s.flashTick with
    | .error u => .error u
    | .ok f => .ok (setTicks p f (setMeasuring true (timerStart s)))

/-- The completion branch of `on_edge()` (rule R110): the count becomes DecodedValue and the timer is reset. -/
def completeMeasurement (cancels : Bool) (s : State) : State :=
  setMeasuring false (timerClear cancels (writeDecoded (timerRead s) (timerStop s)))

/-- `on_edge()` (rule R110) for a given `OVF_CLR_ON_RESET`. The branch depends only on Measuring (rule R114); both branches
clear Fault. -/
def onEdge (cancels : Bool) (s : State) : Except Unreachable State :=
  if s.measuring then .ok (setFault false (completeMeasurement cancels s))
  else
    match startMeasurement s with
    | .error u => .error u
    | .ok t => .ok (setFault false t)

/-- The effect of `on_timeout()` (rule R112) for given `OVF_CLR_ON_RESET` and `FALLBACK_VALUE`. -/
def onTimeout (cancels : Bool) (fallback : Count) (s : State) : State :=
  setFault true (setMeasuring false (writeDecoded fallback (setOvfPending false (timerClear cancels (timerStop s)))))

/-- EDGE (rules R110, R111). -/
def execEdge (s : State) : Host.Outcome State Fault Refusal :=
  match onEdge Config.ovfClrOnReset s with
  | .ok t => .next t
  | .error u => .fault (.unreachable u)

/-- TMO (rules R112, R113): stuck unless OvfPending = 1 (rule R73). -/
def execTmo (s : State) : Host.Outcome State Fault Refusal :=
  if enabled s .tmo then .next (onTimeout Config.ovfClrOnReset fallbackValue s)
  else .refused (.notEnabled "TMO")

end Sys2Proof.Machine
end

