-- ==== Sys2Proof/Machine/Pattern.lean ====
section
/-! DEFINITION. The Pattern Generator's pure functions (rules R120-R133) and the supervisor's (rule R143). -/

namespace Sys2Proof.Machine

/-- `ModeOf(v)` (rule R120): exclusive bounds; the six bounds and all values outside every range give Undefined. -/
def modeOf (v : Count) : Mode :=
  let n := v.toNat
  if offLow < n ∧ n < onLow then .off
  else if onLow < n ∧ n < blinkLow then .on
  else if blinkLow < n ∧ n < flashLow then .blink
  else if flashLow < n ∧ n < sosLow then .flash
  else if sosLow < n ∧ n < sosHigh then .sos
  else .undefined

/-- `BlinkOut(t)`, for t in 0..271 (rule R121); any other value is a fault (U7; notes/assumptions/10.md). -/
def blinkOut (t : PulseTick) : Except Unreachable Level :=
  if t.toNat < pulsePeriod then .ok (levelOf (decide (t.toNat % blinkPeriod < blinkOn))) else .error .counter

/-- `FLASH_TABLE` (rule R122), with the source's end value 35. -/
def flashTable : List Window :=
  [⟨0, 4, .active⟩, ⟨4, 7, .inactive⟩, ⟨7, 11, .active⟩, ⟨11, 35, .inactive⟩]

/-- `SOS_TABLE` (rule R124). -/
def sosTable : List Window :=
  [⟨0, 8, .active⟩, ⟨8, 16, .inactive⟩, ⟨16, 24, .active⟩, ⟨24, 32, .inactive⟩, ⟨32, 40, .active⟩, ⟨40, 64, .inactive⟩,
   ⟨64, 88, .active⟩, ⟨88, 96, .inactive⟩, ⟨96, 120, .active⟩, ⟨120, 128, .inactive⟩, ⟨128, 152, .active⟩,
   ⟨152, 176, .inactive⟩, ⟨176, 184, .active⟩, ⟨184, 192, .inactive⟩, ⟨192, 200, .active⟩, ⟨200, 208, .inactive⟩,
   ⟨208, 216, .active⟩, ⟨216, 272, .inactive⟩]

/-- A table's level at a tick below `period`; with no match, or at any other tick, `fault Unreachable(lookup)` (rules R123,
R125, R126; vector V-G24; notes/assumptions/11.md). -/
def tableOut (table : List Window) (period t : Nat) : Except Unreachable Level :=
  match (if t < period then lookup table t else none) with
  | some l => .ok l
  | none => .error .lookup

/-- `FlashOut(t)`, for t in 0..33 (rule R123). -/
def flashOut (t : FlashTick) : Except Unreachable Level := tableOut flashTable flashPeriod t.toNat

/-- `SosOut(t)`, for t in 0..271 (rule R125). -/
def sosOut (t : PulseTick) : Except Unreachable Level := tableOut sosTable pulsePeriod t.toNat

/-- The generator's output decision: a level, or `Hold`, "do not write the output" (rule R9). -/
inductive Drive where
  | hold
  | level (l : Level)
  deriving DecidableEq, Repr

/-- What Generate returns: the output decision, the new PrevMode and the two clear requests (rule R127). -/
structure Decision where
  out : Drive
  prevMode : ModeCode
  clrF : Bool
  clrP : Bool
  deriving DecidableEq, Repr

/-- The decision that changes nothing: the gate (rule R146) and the dead zone (rule R129). -/
def holdDecision (prev : ModeCode) : Decision := ⟨.hold, prev, false, false⟩

/-- A mode's decision from a pattern's result; a pattern's fault is the step's. -/
def driveDecision (r : Except Unreachable Level) (m : Mode) (clrF clrP : Bool) : Except Unreachable Decision :=
  match r with
  | .ok l => .ok ⟨.level l, m.code, clrF, clrP⟩
  | .error u => .error u

/-- The case analysis of Generate in an evaluated iteration (rule R127); `prev` is PrevMode. -/
def dispatchMode (s : Snapshot) (prev : ModeCode) : Except Unreachable Decision :=
  match modeOf s.dv with
  | .undefined => .ok (holdDecision prev)
  | .off => driveDecision (.ok .inactive) .off false false
  | .on => driveDecision (.ok .active) .on false false
  | .blink => driveDecision (blinkOut s.pulseTick) .blink false false
  | .flash =>
    if prev = Mode.flash.code then driveDecision (flashOut s.flashTick) .flash false false
    else driveDecision (flashOut 0) .flash true false
  | .sos =>
    if prev = Mode.sos.code then driveDecision (sosOut s.pulseTick) .sos false false
    else driveDecision (sosOut 0) .sos false true

/-- `Generate(s, prev)` (rule R127). A reserved PrevMode code is a fault (rule R75, U8; notes/assumptions/9.md); with
`s.Measuring` = 1 nothing is evaluated (rule R146). -/
def generate (s : Snapshot) (prev : ModeCode) : Except Unreachable Decision :=
  match Mode.ofCode prev with
  | none => .error .mode
  | some _ => if s.measuring then .ok (holdDecision prev) else dispatchMode s prev

/-- `Supervise(f, gen, cur)` (rule R143): the pair (light, ind). -/
def supervise (f : Bool) (gen : Drive) (cur : Level) : Level × Level :=
  if f then (.active, .active)
  else
    match gen with
    | .hold => (cur, .inactive)
    | .level l => (l, .inactive)

end Sys2Proof.Machine
end

