-- ==== Sys2Proof/Machine/MainLoop.lean ====
section
/-! DEFINITION. The polling main loop's two steps (rules R140-R147). -/

namespace Sys2Proof.Machine

/-- PSNAP (rule R141): stuck unless PollPhase = Idle (rule R73). -/
def execPsnap (s : State) : Host.Outcome State Fault Refusal :=
  if enabled s .psnap then .next (setPollPhase .snapped (takeSnapshot s))
  else .refused (.notEnabled "PSNAP")

/-- PCOMMIT's writes for a decision of Generate (rules R142, R143, R144). -/
def commit (d : Decision) (s : State) : State :=
  let out := supervise s.snap.fault d.out s.lightOut
  setPollPhase .idle (emitAck (writeOutputs out.1 out.2 (setPrevMode d.prevMode (clearTicks d.clrF d.clrP s))))

/-- PCOMMIT (rule R142): stuck unless PollPhase = Snapped (rule R73). -/
def execPcommit (s : State) : Host.Outcome State Fault Refusal :=
  if enabled s .pcommit then
    match generate s.snap s.prevMode with
    | .ok d => .next (commit d s)
    | .error u => .fault (.unreachable u)
  else .refused (.notEnabled "PCOMMIT")

end Sys2Proof.Machine
end

