-- ==== Sys2Proof/Machine/Reset.lean ====
section
/-! DEFINITION. Reset (rules R180-R182). -/

namespace Sys2Proof.Machine

/-- RST (rule R180): power-on and watchdog expiry have this one effect (rule R181). -/
def execRst (s : State) : Host.Outcome State Fault Refusal := .next (resetCells s)

end Sys2Proof.Machine
end

