-- ==== Sys2Proof/Machine/Dispatch.lean ====
section
/-! DEFINITION. The meaning of each event word and micro-operation: one arm per constructor of Instr. -/

namespace Sys2Proof.Machine

def exec (i : Instr) (s : State) : Host.Outcome State Fault Refusal :=
  match i with
  | .edge => Sys2Proof.Machine.execEdge s
  | .tclk => Sys2Proof.Machine.execTclk s
  | .tmo => Sys2Proof.Machine.execTmo s
  | .psnap => Sys2Proof.Machine.execPsnap s
  | .pcommit => Sys2Proof.Machine.execPcommit s
  | .rst => Sys2Proof.Machine.execRst s
  | .tStart => Sys2Proof.Machine.execTStart s
  | .tStoprd => Sys2Proof.Machine.execTStoprd s
  | .tClr => Sys2Proof.Machine.execTClr s

end Sys2Proof.Machine
end

