-- ==== Sys2Proof/WellFormed.lean ====
section
/-! DEFINITION. Which event words may stand in a trace (rule R72). -/

namespace Sys2Proof

/-- An event word is well formed at the event interface when its verdict is `Step`: "no environment may issue [the internal
micro-operations] alone" (rule R72). -/
def Instr.wellFormed : Instr → Bool
  | .edge => true
  | .tclk => true
  | .tmo => true
  | .psnap => true
  | .pcommit => true
  | .rst => true
  | .tStart => false
  | .tStoprd => false
  | .tClr => false

end Sys2Proof
end

