-- ==== Sys2Proof/Decode.lean ====
section
/-! DEFINITION. The event word's format, the total decoder with its three verdicts, and the encoder (rules R70-R73). -/

namespace Sys2Proof

/-- The field `op` = w[7:4] (rule R70). -/
def opField (w : EventWord) : BitVec 4 := w.extractLsb' 4 4

/-- The reserved field `rsv` = w[3:0] (rule R70). -/
def rsvField (w : EventWord) : BitVec 4 := w.extractLsb' 0 4

/-- The operation codes of rule R71; `none` for the reserved codes 0x0, 0x7 and 0xB..0xF. -/
def instrOfOp (op : BitVec 4) : Option Instr :=
  match op.toNat with
  | 0x1 => some .edge
  | 0x2 => some .tclk
  | 0x3 => some .tmo
  | 0x4 => some .psnap
  | 0x5 => some .pcommit
  | 0x6 => some .rst
  | 0x8 => some .tStart
  | 0x9 => some .tStoprd
  | 0xA => some .tClr
  | _ => none

/-- The three verdicts of rule R72. -/
inductive Verdict where
  /-- A step the environment may ask for. -/
  | step (i : Instr)
  /-- An internal micro-operation: refused at the event interface. -/
  | internal (i : Instr)
  /-- A reserved word. -/
  | invalid (w : EventWord)
  deriving DecidableEq, Repr

/-- Decoding of one byte, total (rule R72). -/
def decode (w : EventWord) : Verdict :=
  if rsvField w ≠ 0#4 then .invalid w
  else
    match instrOfOp (opField w) with
    | none => .invalid w
    | some i => if i.wellFormed then .step i else .internal i

/-- The instruction a verdict names, if it names one. -/
def Verdict.instr? : Verdict → Option Instr
  | .step i => some i
  | .internal i => some i
  | .invalid _ => none

/-- Decoding of a whole trace, one byte per step (rules R70, R72, R81); it stops with the verdict of the first word that is
not a step. -/
def decodeTrace : List EventWord → Except Verdict (List Instr)
  | [] => .ok []
  | w :: ws =>
    match decode w with
    | .step i =>
      match decodeTrace ws with
      | .ok is => .ok (i :: is)
      | .error v => .error v
    | v => .error v

/-- The event word whose table bits are `w`: the table gives every row 8 bits, so its one byte holds them all (rules R70,
R81). -/
def tableByte (nbits w : Nat) : EventWord := BitVec.ofNat 8 (w % 2 ^ nbits)

/-- What the decoder reads from a table word: the row's instruction under the verdicts `Step` and `Internal`. -/
def decodeTableWord (nbits w : Nat) : Option Instr := (decode (tableByte nbits w)).instr?

/-- The operation code of each row (rule R71). -/
def opcodeOf : Instr → BitVec 4
  | .edge => 0x1#4
  | .tclk => 0x2#4
  | .tmo => 0x3#4
  | .psnap => 0x4#4
  | .pcommit => 0x5#4
  | .rst => 0x6#4
  | .tStart => 0x8#4
  | .tStoprd => 0x9#4
  | .tClr => 0xA#4

/-- The event word of an instruction: `{op, 0000}` (rules R70, R71). -/
def encode (i : Instr) : EventWord := opcodeOf i ++ 0#4

end Sys2Proof
end

