-- ==== Sys2Proof/Machine/Fetch.lean ====
section
/-! DEFINITION. Which step comes next (rules R56, R72, R73): the event interface. The block has no program counter and fetches
no instruction (rules R37, R61); the environment chooses. -/

namespace Sys2Proof.Machine

/-- What the event interface gives the machine to do. -/
inductive Fetched where
  /-- Take this step in this state. -/
  | run (i : Instr) (s : State)
  /-- The word is refused by name (rule R72). -/
  | refuse (r : Refusal)
  deriving DecidableEq, Repr

/-- The `n`-th of the enabled steps, counted round them: a choice among exactly the enabled steps, whatever `n` is. -/
def pickEnabled (n : Nat) (s : State) : Instr :=
  (enabledSteps s).getD (n % (enabledSteps s).length) .rst

/-- The next event word, taken off the trace, if it is a step; with no word left, any enabled step ("Which enabled step comes
next is free", rule R56; notes/assumptions/2.md). -/
def fetch (s : State) : Fetched :=
  match s.trace with
  | w :: rest =>
    match decode w with
    | .step i => .run i { s with trace := rest }
    | .internal i => .refuse (.internalWord i.mnemonic)
    | .invalid v => .refuse (.invalidWord v)
  | [] => .run (pickEnabled (Config.freeChoice s.choices) s) { s with choices := s.choices + 1 }

end Sys2Proof.Machine
end

