-- ==== Sys2Proof/Machine/Step.lean ====
section
/-! DEFINITION. One step of the machine: the event interface's next step, taken (rule R56). -/

namespace Sys2Proof.Machine

/-- One atomic step (rules R56, R57). -/
def step (s : State) : Host.Outcome State Fault Refusal :=
  match fetch s with
  | .run i t => exec i t
  | .refuse r => .refused r

/-- The state with one event word placed at the head of the trace, so that `step` takes it next (notes/assumptions/3.md). -/
def State.withFetchWord (s : State) (nbits w : Nat) : State := { s with trace := tableByte nbits w :: s.trace }

end Sys2Proof.Machine
end

