-- ==== Sys2Proof/Machine/Trace.lean ====
section
/-! DEFINITION. The trace syntax and its pseudo-instructions (rules R79, R80). Text is a list of characters. Details the spec
leaves open are in notes/assumptions/14.md. -/

namespace Sys2Proof.Machine

/-- One line of a trace: nothing (a blank or comment line), a mnemonic, or a pseudo-instruction (rules R79, R80). -/
inductive TraceLine where
  | empty
  | event (i : Instr)
  | tclkTimes (n : Nat)
  | poll
  | pulse (n : Nat)
  | timeout
  deriving DecidableEq, Repr

/-- The steps a line stands for (rule R80). -/
def TraceLine.events : TraceLine → List Instr
  | .empty => []
  | .event i => [i]
  | .tclkTimes n => List.replicate n .tclk
  | .poll => [.psnap, .pcommit]
  | .pulse n => .edge :: List.replicate n .tclk ++ [.edge]
  | .timeout => List.replicate 256 .tclk ++ [.tmo]

/-- Why a line is rejected. -/
inductive AsmError where
  /-- "Internal mnemonics ... are rejected by the assembler" (rule R79). -/
  | internalMnemonic (mnemonic : String)
  /-- A line that is no mnemonic and no pseudo-instruction. -/
  | unknownLine
  deriving DecidableEq, Repr

/-- The event words of a line (rules R79, R80). -/
def assembleLine : TraceLine → Except AsmError (List EventWord)
  | .event i => if i.wellFormed then .ok [encode i] else .error (.internalMnemonic i.mnemonic)
  | l => .ok (l.events.map encode)

/-- "A trace is assembled to the byte sequence of its words, in order" (rule R79). -/
def assemble : List TraceLine → Except AsmError (List EventWord)
  | [] => .ok []
  | l :: ls =>
    match assembleLine l with
    | .error e => .error e
    | .ok ws =>
      match assemble ls with
      | .error e => .error e
      | .ok rest => .ok (ws ++ rest)

/-- The mnemonics of rule R71 in capitals. -/
def mnemonics : List (List Char × Instr) :=
  [(['E', 'D', 'G', 'E'], .edge), (['T', 'C', 'L', 'K'], .tclk), (['T', 'M', 'O'], .tmo),
   (['P', 'S', 'N', 'A', 'P'], .psnap), (['P', 'C', 'O', 'M', 'M', 'I', 'T'], .pcommit), (['R', 'S', 'T'], .rst),
   (['T', '.', 'S', 'T', 'A', 'R', 'T'], .tStart), (['T', '.', 'S', 'T', 'O', 'P', 'R', 'D'], .tStoprd),
   (['T', '.', 'C', 'L', 'R'], .tClr)]

/-- Remove white space at both ends. -/
def trimBlanks (cs : List Char) : List Char :=
  ((cs.dropWhile Char.isWhitespace).reverse.dropWhile Char.isWhitespace).reverse

/-- A decimal number: at least one digit and nothing else. -/
def decimal (cs : List Char) : Option Nat :=
  if cs ≠ [] ∧ cs.all Char.isDigit then some (cs.foldl (fun n c => 10 * n + (c.toNat - '0'.toNat)) 0) else none

/-- What follows `pre`, if the text begins with it. -/
def afterPrefix (pre cs : List Char) : Option (List Char) :=
  if cs.take pre.length = pre then some (cs.drop pre.length) else none

/-- The number of `TCLK*n`. -/
def tclkCount (cs : List Char) : Option Nat :=
  (afterPrefix ['T', 'C', 'L', 'K', '*'] cs).bind decimal

/-- The number of `PULSE n`: white space stands between the word and the number. -/
def pulseCount (cs : List Char) : Option Nat :=
  match afterPrefix ['P', 'U', 'L', 'S', 'E'] cs with
  | some (c :: rest) => if c.isWhitespace then decimal (trimBlanks rest) else none
  | _ => none

/-- One line of text: `;` starts a comment, and letters may be of either case (rule R79). -/
def parseLine (line : List Char) : Except AsmError TraceLine :=
  let cs := (trimBlanks (line.takeWhile (· ≠ ';'))).map Char.toUpper
  if cs = [] then .ok .empty
  else if cs = ['P', 'O', 'L', 'L'] then .ok .poll
  else if cs = ['T', 'I', 'M', 'E', 'O', 'U', 'T'] then .ok .timeout
  else
    match mnemonics.lookup cs, tclkCount cs, pulseCount cs with
    | some i, _, _ => .ok (.event i)
    | none, some n, _ => .ok (.tclkTimes n)
    | none, none, some n => .ok (.pulse n)
    | none, none, none => .error .unknownLine

/-- The lines of a text. -/
def linesOf : List Char → List (List Char)
  | [] => [[]]
  | c :: cs =>
    match c == '\n', linesOf cs with
    | true, ls => [] :: ls
    | false, l :: ls => (c :: l) :: ls
    | false, [] => [[c]]

/-- Every line of a text, or the first line's error. -/
def parseLines : List (List Char) → Except AsmError (List TraceLine)
  | [] => .ok []
  | l :: ls =>
    match parseLine l with
    | .error e => .error e
    | .ok t =>
      match parseLines ls with
      | .error e => .error e
      | .ok ts => .ok (t :: ts)

/-- The assembler of rule R79: text to event words. -/
def assembleText (text : List Char) : Except AsmError (List EventWord) :=
  match parseLines (linesOf text) with
  | .ok ls => assemble ls
  | .error e => .error e

end Sys2Proof.Machine
end

