-- ==== Sys2Proof/Safety.lean ====
section
/-! DEFINITION. The terms in which claims about runs are made: finite runs of chosen events, the invariants of rule R39, and
fair infinite runs (rules R194, R196). -/

namespace Sys2Proof.Machine

/-- A finite run: the events of the list, in order; it stops at the first event that has no next state (rules R56, R73). -/
def runEvents : List Instr → State → Host.Outcome State Fault Refusal
  | [], s => .next s
  | i :: is, s =>
    match exec i s with
    | .next t => runEvents is t
    | .fault f => .fault f
    | .refused r => .refused r

/-- Whether an event is neither an edge, nor a timeout, nor a reset, nor internal: TCLK, PSNAP or PCOMMIT. -/
def quiet (i : Instr) : Bool := decide (i = .tclk) || decide (i = .psnap) || decide (i = .pcommit)

/-- The flash ticks at which the pattern is active, as rule R123 lists them: 0..3 and 7..10. -/
def flashActive (n : Nat) : Bool := decide (n < 4) || (decide (7 ≤ n) && decide (n < 11))

/-- The pulse ticks at which SOS is active, as the source lists them (rule R124): three dits, three dahs, three dits. -/
def sosActive (n : Nat) : Bool :=
  [(0, 8), (16, 24), (32, 40), (64, 88), (96, 120), (128, 152), (176, 184), (192, 200), (208, 216)].any
    fun w => decide (w.1 ≤ n) && decide (n < w.2)

/-- PrevMode holds a mode's code, not a reserved one (rule R75). -/
def legalMode (c : ModeCode) : Prop := c.toNat ≤ 5

/-- The invariants 1 to 6 of rule R39, for the current cells. -/
structure CellInv (s : State) : Prop where
  running_iff : s.timerRunning = s.measuring
  stopped_zero : s.timerRunning = false → s.timerCount = 0
  fault_idle : s.fault = true → s.measuring = false
  fault_fallback : s.fault = true → s.decodedValue = fallbackValue
  pulse_legal : s.pulseTick.toNat ≤ 271
  flash_legal : s.flashTick.toNat ≤ 33
  ovf_measuring : Config.ovfClrOnReset = true → s.ovfPending = true → s.measuring = true

/-- What the invariants of rule R39 give for the snapshot: it is a copy of the cells of an earlier state (rule R31). -/
structure SnapInv (n : Snapshot) : Prop where
  fault_idle : n.fault = true → n.measuring = false
  fault_fallback : n.fault = true → n.dv = fallbackValue
  pulse_legal : n.pulseTick.toNat ≤ 271
  flash_legal : n.flashTick.toNat ≤ 33

/-- The invariant of every reachable state: rule R39, with PrevMode a legal code (rule R75) and the snapshot a copy. -/
structure BlockInv (s : State) : Prop where
  cells : CellInv s
  snap : SnapInv s.snap
  mode : legalMode s.prevMode

/-- An infinite run of the block: every event is a step of an agent, and each is taken (rules R56, R196). -/
def IsRun (event : Nat → Instr) (state : Nat → State) : Prop :=
  ∀ n, (event n).wellFormed = true ∧ exec (event n) (state n) = .next (state (n + 1))

/-- Weak fairness (rule R194): the main loop takes infinitely many steps; a TMO that stays enabled is taken; a TCLK comes while
the timer stays running. EDGE and RST are not forced. See notes/assumptions/16.md. -/
structure WeaklyFair (event : Nat → Instr) (state : Nat → State) : Prop where
  mainLoop : ∀ n, ∃ m, n ≤ m ∧ (event m = .psnap ∨ event m = .pcommit)
  dispatcher : ∀ n, (∀ m, n ≤ m → (state m).ovfPending = true) → ∃ m, n ≤ m ∧ event m = .tmo
  timerClock : ∀ n, (∀ m, n ≤ m → (state m).timerRunning = true) → ∃ m, n ≤ m ∧ event m = .tclk

end Sys2Proof.Machine
end

