-- ==== Sys2Proof/Certificates/Slice0/Obligations.lean ====
section
/-! DEFINITION. The statements about the ParaLightController core. Each docstring names the rules of spec/ it formalises; Dn is the
spec's own decision n (92_eei_decisions.md). Numbers stand here as the spec writes them, not through the model's constants. -/

open Sys2Proof Sys2Proof.Machine

/-! ## Event words -/

/-- R71, R72: the nine words of the table, written bit by bit from `{op, 0000}`, and one reserved word of each kind. -/
def Obligations.TableWordsDecodeToTheirInstructions : Prop :=
  decode 0b00010000#8 = .step .edge ∧ decode 0b00100000#8 = .step .tclk ∧ decode 0b00110000#8 = .step .tmo ∧
  decode 0b01000000#8 = .step .psnap ∧ decode 0b01010000#8 = .step .pcommit ∧ decode 0b01100000#8 = .step .rst ∧
  decode 0b10000000#8 = .internal .tStart ∧ decode 0b10010000#8 = .internal .tStoprd ∧
  decode 0b10100000#8 = .internal .tClr ∧
  decode 0b00000000#8 = .invalid 0b00000000#8 ∧ decode 0b01110000#8 = .invalid 0b01110000#8 ∧
  decode 0b10110000#8 = .invalid 0b10110000#8 ∧ decode 0b00010001#8 = .invalid 0b00010001#8

/-- R70, R71, R72: a word decodes to a step or an internal micro-operation exactly when it is that instruction's word. -/
def Obligations.DecodeInvertsEncode : Prop :=
  ∀ (w : EventWord) (i : Instr),
    (decode w = .step i ↔ i.wellFormed = true ∧ w = encode i) ∧
    (decode w = .internal i ↔ i.wellFormed = false ∧ w = encode i)

/-- R72: the verdict of every byte, and what the event interface does with a word under each verdict. -/
def Obligations.EveryByteHasOneOfThreeVerdicts : Prop :=
  ∀ (w : EventWord) (s : State) (rest : List EventWord), s.trace = w :: rest →
    if w.toNat % 16 = 0 ∧ 1 ≤ w.toNat / 16 ∧ w.toNat / 16 ≤ 6 then
      ∃ i, i.wellFormed = true ∧ decode w = .step i ∧ step s = exec i { s with trace := rest }
    else if w.toNat % 16 = 0 ∧ 8 ≤ w.toNat / 16 ∧ w.toNat / 16 ≤ 10 then
      ∃ i, i.wellFormed = false ∧ decode w = .internal i ∧ step s = .refused (.internalWord i.mnemonic)
    else decode w = .invalid w ∧ step s = .refused (.invalidWord w)

/-- R79, R80, R81: an assembled trace decodes, one byte per step, to exactly the steps its lines stand for; and a trace
assembles exactly when it holds no internal mnemonic. -/
def Obligations.AssembledTracesDecodeToTheirEvents : Prop :=
  ∀ ls : List TraceLine,
    (∀ ws, assemble ls = .ok ws →
      decodeTrace ws = .ok (ls.flatMap TraceLine.events) ∧ ws.length = (ls.flatMap TraceLine.events).length) ∧
    ((∃ ws, assemble ls = .ok ws) ↔ ∀ i, TraceLine.event i ∈ ls → i.wellFormed = true)

/-! ## The event interface -/

/-- R56, R72: when the next event word decodes to a step, the machine's step is that step, taken in the state without the
word. -/
def Obligations.StepRunsTheDecodedEvent : Prop :=
  ∀ (s : State) (w : EventWord) (rest : List EventWord) (i : Instr),
    s.trace = w :: rest → decode w = .step i → step s = exec i { s with trace := rest }

/-- R56: with no word chosen beforehand, the step is some enabled step, and it is never stuck. That the machine goes on so is the
model's choice (notes/assumptions/2.md). -/
def Obligations.FreeStepsAreEnabledSteps : Prop :=
  ∀ s : State, s.trace = [] →
    (∃ i, i.wellFormed = true ∧ (i = .tmo → s.ovfPending = true) ∧ (i = .psnap → s.pollPhase = .idle) ∧
      (i = .pcommit → s.pollPhase = .snapped) ∧ step s = exec i { s with choices := s.choices + 1 }) ∧
    ∀ r, step s ≠ .refused r

/-- R73: TMO, PSNAP and PCOMMIT are stuck exactly when they are not enabled, with no fault; every other instruction is never
stuck. -/
def Obligations.StepsAreStuckExactlyWhenNotEnabled : Prop :=
  ∀ s : State,
    (exec .tmo s = .refused (.notEnabled "TMO") ↔ s.ovfPending = false) ∧
    (exec .psnap s = .refused (.notEnabled "PSNAP") ↔ s.pollPhase = .snapped) ∧
    (exec .pcommit s = .refused (.notEnabled "PCOMMIT") ↔ s.pollPhase = .idle) ∧
    ∀ i r, exec i s = .refused r → i = .tmo ∨ i = .psnap ∨ i = .pcommit

/-- R56, R57: running a trace of step words, word by word, is taking its events in that order, each seeing all writes of the
ones before it. -/
def Obligations.TraceRunTakesItsEventsInOrder : Prop :=
  ∀ (is : List Instr) (s : State) (rest : List EventWord), (∀ i ∈ is, i.wellFormed = true) →
    s.trace = is.map encode ++ rest →
    Host.Core.run Sys2Proof.core is.length s = runEvents is { s with trace := rest }

/-! ## The Pulse Timer -/

/-- R101: T.START sets TimerRunning and changes nothing else. -/
def Obligations.TimerStartSetsRunning : Prop :=
  ∀ s : State, exec .tStart s = .next { s with timerRunning := true }

/-- R102: T.STOPRD returns the count, clears TimerRunning and changes nothing else. -/
def Obligations.TimerStopReadsTheCount : Prop :=
  ∀ s : State, timerRead s = s.timerCount ∧ exec .tStoprd s = .next { s with timerRunning := false }

/-- R103: T.CLR zeroes the count, and cancels a latched overflow exactly when `OVF_CLR_ON_RESET` holds: for both values of the
parameter, and for the machine's own. -/
def Obligations.TimerClearZeroesTheCount : Prop :=
  (∀ s : State, timerClear true s = { s with timerCount := 0, ovfPending := false } ∧
    timerClear false s = { s with timerCount := 0 }) ∧
  ∀ s : State, exec .tClr s =
    .next { s with timerCount := 0, ovfPending := if Config.ovfClrOnReset then false else s.ovfPending }

/-- R104 (the wrap is the spec's decision D7): every TCLK completes; a running timer counts, wrapping from 255 to 0 with the
overflow latched; a stopped one does not change. -/
def Obligations.TclkCountsTheRunningTimer : Prop :=
  ∀ s : State, exec .tclk s = .next
    (if s.timerRunning = true then
      if s.timerCount.toNat = 255 then { s with timerCount := 0, ovfPending := true }
      else { s with timerCount := BitVec.ofNat 8 (s.timerCount.toNat + 1) }
    else s)

/-- R105, R165: an overflow is latched only by a TCLK that wraps the count of a running timer. -/
def Obligations.OverflowComesOnlyFromAWrappingTclk : Prop :=
  ∀ (i : Instr) (s t : State), exec i s = .next t → s.ovfPending = false → t.ovfPending = true →
    i = .tclk ∧ s.timerRunning = true ∧ s.timerCount.toNat = 255

/-- R106, R28: while the timer runs, however PSNAP and PCOMMIT fall between the counts, the count is the number of TCLKs modulo
256, and the overflow is latched as soon as 256 is reached. -/
def Obligations.TimerCountIsTheNumberOfTclks : Prop :=
  ∀ (is : List Instr) (s t : State), (∀ i ∈ is, quiet i = true) → s.timerRunning = true → runEvents is s = .next t →
    t.timerRunning = true ∧ t.timerCount.toNat = (s.timerCount.toNat + is.count .tclk) % 256 ∧
    t.ovfPending = (s.ovfPending || decide (256 ≤ s.timerCount.toNat + is.count .tclk))

/-! ## The decoder -/

/-- R110: what EDGE does, for every state with legal counters, and for every state at all in the completion branch. -/
def Obligations.EdgeStartsOrCompletesAMeasurement : Prop :=
  ∀ s : State, (s.measuring = false → s.pulseTick.toNat ≤ 271 ∧ s.flashTick.toNat ≤ 33) →
    exec .edge s = .next
      (if s.measuring = false then
        { s with
          timerRunning := true
          measuring := true
          pulseTick := if s.pulseTick.toNat = 271 then 0 else s.pulseTick + 1
          flashTick := if s.flashTick.toNat = 33 then 0 else s.flashTick + 1
          fault := false }
      else
        { s with
          timerRunning := false
          decodedValue := s.timerCount
          timerCount := 0
          ovfPending := if Config.ovfClrOnReset then false else s.ovfPending
          measuring := false
          fault := false })

/-- R111 (the fault is the spec's decision D36): AdvP and AdvF on every argument, and the fault of an EDGE that meets an illegal
counter. -/
def Obligations.CountersAdvanceModuloTheirPeriods : Prop :=
  (∀ t : PulseTick, advance pulsePeriod t =
    if t.toNat ≤ 271 then .ok (BitVec.ofNat 9 ((t.toNat + 1) % 272)) else .error .counter) ∧
  (∀ t : FlashTick, advance flashPeriod t =
    if t.toNat ≤ 33 then .ok (BitVec.ofNat 8 ((t.toNat + 1) % 34)) else .error .counter) ∧
  ∀ s : State, s.measuring = false → (271 < s.pulseTick.toNat ∨ 33 < s.flashTick.toNat) →
    exec .edge s = .fault (.unreachable .counter)

/-- R112: TMO runs exactly when an overflow is latched, and what it then does, for whichever fallback the parameter is. -/
def Obligations.TimeoutForcesTheFallback : Prop :=
  (∀ s : State, s.ovfPending = false → exec .tmo s = .refused (.notEnabled "TMO")) ∧
  (∀ s : State, s.ovfPending = true →
    exec .tmo s = .next
      { s with
        timerRunning := false
        timerCount := 0
        ovfPending := false
        decodedValue := fallbackValue
        measuring := false
        fault := true }) ∧
  90 < fallbackValue.toNat ∧ fallbackValue.toNat < 105 ∧ modeOf fallbackValue = .on

/-- R111, R132: from a state between measurements with legal counters, n pulses (an EDGE to start and an EDGE to complete, n
times) all run and advance PulseTick by n modulo 272 and FlashTick by n modulo 34; so each returns to its value after its own
period. -/
def Obligations.TickCountersCountMeasurementStarts : Prop :=
  ∀ (n : Nat) (s : State), s.measuring = false → s.pulseTick.toNat ≤ 271 → s.flashTick.toNat ≤ 33 →
    ∃ t, runEvents (List.replicate n [Instr.edge, Instr.edge]).flatten s = .next t ∧ t.measuring = false ∧
      t.pulseTick.toNat = (s.pulseTick.toNat + n) % 272 ∧ t.flashTick.toNat = (s.flashTick.toNat + n) % 34

/-- R115: an EDGE, then TCLKs with any PSNAPs and PCOMMITs among them but no overflow, then an EDGE: DecodedValue is the number
of TCLKs. The premise `timerCount = 0` is invariant 2 of R39 for a stopped timer. -/
def Obligations.PulseWidthIsTheNumberOfTclks : Prop :=
  ∀ (is : List Instr) (s t : State), s.measuring = false → s.timerCount = 0 → (∀ i ∈ is, quiet i = true) →
    is.count .tclk ≤ 255 → runEvents (.edge :: is ++ [.edge]) s = .next t →
    t.decodedValue.toNat = is.count .tclk ∧ t.measuring = false ∧ t.fault = false ∧ t.timerRunning = false ∧
    t.timerCount = 0

/-- R116: after a TMO, until the next edge, no further TMO is enabled, whatever else runs; the fallback and Fault stay; and any
EDGE that follows clears Fault. -/
def Obligations.TimeoutFiresOncePerOverflow : Prop :=
  ∀ (is : List Instr) (s t : State), (∀ i ∈ is, quiet i = true) → runEvents (.tmo :: is) s = .next t →
    exec .tmo t = .refused (.notEnabled "TMO") ∧ t.fault = true ∧ t.measuring = false ∧
    t.decodedValue = fallbackValue ∧ ∀ u, exec .edge t = .next u → u.fault = false

/-- R114, R188 (first two points): after a timeout the next EDGE starts a measurement from 0, whatever its direction, and clears
Fault. -/
def Obligations.EdgeAfterTimeoutStartsAMeasurement : Prop :=
  ∀ s : State, s.ovfPending = true → s.pulseTick.toNat ≤ 271 → s.flashTick.toNat ≤ 33 →
    ∃ t, runEvents [.tmo, .edge] s = .next t ∧ t.measuring = true ∧ t.timerRunning = true ∧ t.timerCount = 0 ∧
      t.fault = false ∧ t.ovfPending = false ∧ t.decodedValue = fallbackValue ∧
      t.pulseTick.toNat = (s.pulseTick.toNat + 1) % 272 ∧ t.flashTick.toNat = (s.flashTick.toNat + 1) % 34

/-- R189: a completion EDGE ahead of the TMO decodes the wrapped count. When the timer reset cancels the overflow, no TMO
follows; when it does not, the TMO that stays enabled overwrites the count, or aborts the measurement a further EDGE began. For
both values of `OVF_CLR_ON_RESET`, through the handlers. -/
def Obligations.EdgeAheadOfTimeoutDecodesTheWrappedCount : Prop :=
  ∀ (s : State) (fb : Count), s.measuring = true → s.ovfPending = true →
    (∃ a, onEdge true s = .ok a ∧ a.decodedValue = s.timerCount ∧ a.fault = false ∧ a.timerRunning = false ∧
      a.ovfPending = false) ∧
    ∃ a, onEdge false s = .ok a ∧ a.decodedValue = s.timerCount ∧ a.fault = false ∧ a.timerRunning = false ∧
      a.ovfPending = true ∧ (onTimeout false fb a).decodedValue = fb ∧ (onTimeout false fb a).fault = true ∧
      ∀ b, onEdge false a = .ok b →
        b.measuring = true ∧ b.ovfPending = true ∧ (onTimeout false fb b).measuring = false ∧
        (onTimeout false fb b).timerRunning = false ∧ (onTimeout false fb b).decodedValue = fb

/-- R190: while no measurement runs and no overflow is latched, a line without edges gives no timeout: whatever TCLK, PSNAP and
PCOMMIT steps run, DecodedValue and Fault stay and TMO stays stuck. -/
def Obligations.SignalLostWhileIdleGivesNoTimeout : Prop :=
  ∀ (is : List Instr) (s t : State), (∀ i ∈ is, quiet i = true) → s.timerRunning = false → s.ovfPending = false →
    runEvents is s = .next t →
    t.decodedValue = s.decodedValue ∧ t.fault = s.fault ∧ t.measuring = s.measuring ∧ t.timerCount = s.timerCount ∧
    exec .tmo t = .refused (.notEnabled "TMO")

/-! ## The pattern generator -/

/-- R120: the mode of every value. -/
def Obligations.ModeRangesAreExclusive : Prop :=
  ∀ v : Count,
    (modeOf v = .off ↔ 75 < v.toNat ∧ v.toNat < 90) ∧ (modeOf v = .on ↔ 90 < v.toNat ∧ v.toNat < 105) ∧
    (modeOf v = .blink ↔ 105 < v.toNat ∧ v.toNat < 120) ∧ (modeOf v = .flash ↔ 120 < v.toNat ∧ v.toNat < 135) ∧
    (modeOf v = .sos ↔ 135 < v.toNat ∧ v.toNat < 150) ∧
    (modeOf v = .undefined ↔ v.toNat ≤ 75 ∨ v.toNat = 90 ∨ v.toNat = 105 ∨ v.toNat = 120 ∨ v.toNat = 135 ∨ 150 ≤ v.toNat)

/-- R121: Blink is active in the first 8 of every 16 pulse ticks, and resets no counter. -/
def Obligations.BlinkIsASquareWave : Prop :=
  (∀ t : PulseTick, t.toNat ≤ 271 →
    blinkOut t = .ok (if t.toNat % 16 < 8 then Level.active else Level.inactive)) ∧
  ∀ (n : Snapshot) (prev : ModeCode) (d : Decision), 105 < n.dv.toNat → n.dv.toNat < 120 → generate n prev = .ok d →
    d.clrF = false ∧ d.clrP = false

/-- R122: the Flash table as the source gives it, and the level it gives each of the ticks 0..33. -/
def Obligations.FlashTableGivesTwoShortPulses : Prop :=
  flashTable.map (fun w => (w.start, w.stop, w.level)) =
    [(0, 4, Level.active), (4, 7, Level.inactive), (7, 11, Level.active), (11, 35, Level.inactive)] ∧
  ∀ t : FlashTick, t.toNat ≤ 33 → flashOut t = .ok (levelOf (flashActive t.toNat))

/-- R124: the eighteen windows of the SOS table as the source lists them, and the level they give each of the ticks 0..271. -/
def Obligations.SosTableSpellsSos : Prop :=
  sosTable.map (fun w => (w.start, w.stop, decide (w.level = .active))) =
    [(0, 8, true), (8, 16, false), (16, 24, true), (24, 32, false), (32, 40, true), (40, 64, false), (64, 88, true),
     (88, 96, false), (96, 120, true), (120, 128, false), (128, 152, true), (152, 176, false), (176, 184, true),
     (184, 192, false), (192, 200, true), (200, 208, false), (208, 216, true), (216, 272, false)] ∧
  ∀ t : PulseTick, t.toNat ≤ 271 → sosOut t = .ok (levelOf (sosActive t.toNat))

/-- R126: in each table every tick before the table's end lies in exactly one window, and the lookup answers that window's level;
from the end on the lookup answers nothing. -/
def Obligations.EachTickLiesInOneWindow : Prop :=
  (∀ t : Nat, t < 35 → ∃ w, w ∈ flashTable ∧ w.covers t = true ∧ lookup flashTable t = some w.level ∧
    ∀ v ∈ flashTable, v.covers t = true → v = w) ∧
  (∀ t : Nat, t < 272 → ∃ w, w ∈ sosTable ∧ w.covers t = true ∧ lookup sosTable t = some w.level ∧
    ∀ v ∈ sosTable, v.covers t = true → v = w) ∧
  (∀ t : Nat, 35 ≤ t → lookup flashTable t = none) ∧ ∀ t : Nat, 272 ≤ t → lookup sosTable t = none

/-- R127: Generate, case by case, for every snapshot and PrevMode a reachable state can hold. -/
def Obligations.GenerateFollowsTheModeTable : Prop :=
  ∀ (n : Snapshot) (prev : ModeCode), prev.toNat ≤ 5 → n.pulseTick.toNat ≤ 271 → n.flashTick.toNat ≤ 33 →
    generate n prev = .ok
      (if n.measuring = true then ⟨.hold, prev, false, false⟩
      else if 75 < n.dv.toNat ∧ n.dv.toNat < 90 then ⟨.level .inactive, 0, false, false⟩
      else if 90 < n.dv.toNat ∧ n.dv.toNat < 105 then ⟨.level .active, 1, false, false⟩
      else if 105 < n.dv.toNat ∧ n.dv.toNat < 120 then
        ⟨.level (levelOf (decide (n.pulseTick.toNat % 16 < 8))), 2, false, false⟩
      else if 120 < n.dv.toNat ∧ n.dv.toNat < 135 then
        if prev = 3 then ⟨.level (levelOf (flashActive n.flashTick.toNat)), 3, false, false⟩
        else ⟨.level .active, 3, true, false⟩
      else if 135 < n.dv.toNat ∧ n.dv.toNat < 150 then
        if prev = 4 then ⟨.level (levelOf (sosActive n.pulseTick.toNat)), 4, false, false⟩
        else ⟨.level .active, 4, false, true⟩
      else ⟨.hold, prev, false, false⟩)

/-- R133: for a value in Off's or On's range the decision, the output included, does not depend on the tick counters. -/
def Obligations.OffAndOnIgnoreTheTickCounters : Prop :=
  ∀ (n : Snapshot) (prev : ModeCode) (p : PulseTick) (f : FlashTick),
    (75 < n.dv.toNat ∧ n.dv.toNat < 90) ∨ (90 < n.dv.toNat ∧ n.dv.toNat < 105) →
    generate { n with pulseTick := p, flashTick := f } prev = generate n prev

/-! ## The main loop -/

/-- R141: PSNAP runs exactly when the main loop is Idle, and copies the five shared cells in one step. -/
def Obligations.SnapshotCopiesTheSharedCells : Prop :=
  (∀ s : State, s.pollPhase = .idle →
    exec .psnap s = .next
      { s with
        snap := ⟨s.measuring, s.decodedValue, s.fault, s.pulseTick, s.flashTick⟩
        pollPhase := .snapped }) ∧
  ∀ s : State, s.pollPhase = .snapped → exec .psnap s = .refused (.notEnabled "PSNAP")

/-- R142: PCOMMIT runs exactly when a snapshot is held; it completes with everything Generate and Supervise decide, and nothing
else; and it faults when Generate does. -/
def Obligations.CommitWritesTheDecision : Prop :=
  (∀ s : State, s.pollPhase = .idle → exec .pcommit s = .refused (.notEnabled "PCOMMIT")) ∧
  (∀ (s : State) (u : Unreachable), s.pollPhase = .snapped → generate s.snap s.prevMode = .error u →
    exec .pcommit s = .fault (.unreachable u)) ∧
  ∀ s : State, s.pollPhase = .snapped → s.prevMode.toNat ≤ 5 → s.snap.pulseTick.toNat ≤ 271 →
    s.snap.flashTick.toNat ≤ 33 →
    ∃ d, generate s.snap s.prevMode = .ok d ∧
      exec .pcommit s = .next
        { s with
          flashTick := if d.clrF then 0 else s.flashTick
          pulseTick := if d.clrP then 0 else s.pulseTick
          prevMode := d.prevMode
          lightOut := (supervise s.snap.fault d.out s.lightOut).1
          indicatorOut := (supervise s.snap.fault d.out s.lightOut).2
          acks := s.acks + 1
          pollPhase := .idle }

/-- R143: Supervise in each of its cases, and that every PCOMMIT writes the pair it gives for the sampled Fault and some
decision of the generator, whatever Snap.Measuring is. -/
def Obligations.FaultForcesBothOutputsActive : Prop :=
  (∀ (g : Drive) (cur l : Level),
    supervise true g cur = (.active, .active) ∧ supervise false .hold cur = (cur, .inactive) ∧
    supervise false (.level l) cur = (l, .inactive)) ∧
  ∀ s t : State, exec .pcommit s = .next t →
    ∃ d, generate s.snap s.prevMode = .ok d ∧ (t.lightOut, t.indicatorOut) = supervise s.snap.fault d.out s.lightOut

/-- R146: with Snap.Measuring = 1, PCOMMIT evaluates no pattern: PrevMode and both counters stay, whatever else the snapshot
holds, and only the supervisor acts. -/
def Obligations.MeasuringGateSkipsThePattern : Prop :=
  ∀ s : State, s.pollPhase = .snapped → s.snap.measuring = true → s.prevMode.toNat ≤ 5 →
    exec .pcommit s = .next
      { s with
        lightOut := if s.snap.fault then .active else s.lightOut
        indicatorOut := if s.snap.fault then .active else .inactive
        acks := s.acks + 1
        pollPhase := .idle }

/-- R129 (the spec's decision D11): a value outside all ranges, the six bounds among them, changes neither PrevMode nor a
counter, and the output keeps its level unless the supervisor forces it. -/
def Obligations.DeadZoneHoldsTheOutput : Prop :=
  ∀ s : State, s.pollPhase = .snapped → s.snap.measuring = false → s.prevMode.toNat ≤ 5 →
    (s.snap.dv.toNat ≤ 75 ∨ s.snap.dv.toNat = 90 ∨ s.snap.dv.toNat = 105 ∨ s.snap.dv.toNat = 120 ∨
      s.snap.dv.toNat = 135 ∨ 150 ≤ s.snap.dv.toNat) →
    exec .pcommit s = .next
      { s with
        lightOut := if s.snap.fault then .active else s.lightOut
        indicatorOut := if s.snap.fault then .active else .inactive
        acks := s.acks + 1
        pollPhase := .idle }

/-- R128 (the spec's decisions D11 to D13): an entry into Flash clears FlashTick and starts the pattern at tick 0, whatever the
tick cells hold. -/
def Obligations.FlashEntryRestartsThePattern : Prop :=
  ∀ s : State, s.pollPhase = .snapped → s.snap.measuring = false → s.prevMode.toNat ≤ 5 → s.prevMode ≠ 3 →
    120 < s.snap.dv.toNat → s.snap.dv.toNat < 135 →
    exec .pcommit s = .next
      { s with
        flashTick := 0
        prevMode := 3
        lightOut := .active
        indicatorOut := if s.snap.fault then .active else .inactive
        acks := s.acks + 1
        pollPhase := .idle }

/-- R128 (the spec's decisions D11 to D13): an entry into SOS clears PulseTick and starts the pattern at tick 0. -/
def Obligations.SosEntryRestartsThePattern : Prop :=
  ∀ s : State, s.pollPhase = .snapped → s.snap.measuring = false → s.prevMode.toNat ≤ 5 → s.prevMode ≠ 4 →
    135 < s.snap.dv.toNat → s.snap.dv.toNat < 150 →
    exec .pcommit s = .next
      { s with
        pulseTick := 0
        prevMode := 4
        lightOut := .active
        indicatorOut := if s.snap.fault then .active else .inactive
        acks := s.acks + 1
        pollPhase := .idle }

/-- R187 (the spec's decision D17): a start EDGE between the snapshot and the commit of an SOS entry loses its advance of
PulseTick, but keeps that of FlashTick. -/
def Obligations.EntryLosesAConcurrentAdvance : Prop :=
  ∀ s : State, s.pollPhase = .idle → s.measuring = false → s.prevMode.toNat ≤ 5 → s.prevMode ≠ 4 →
    135 < s.decodedValue.toNat → s.decodedValue.toNat < 150 → s.pulseTick.toNat ≤ 271 → s.flashTick.toNat ≤ 33 →
    ∃ t, runEvents [.psnap, .edge, .pcommit] s = .next t ∧ t.pulseTick = 0 ∧ t.prevMode = 4 ∧ t.lightOut = .active ∧
      t.measuring = true ∧ t.flashTick.toNat = (s.flashTick.toNat + 1) % 34

/-- R130: a second iteration with no other step between gives the same outputs as the first, an entry included. -/
def Obligations.SecondIterationRepeatsTheOutputs : Prop :=
  ∀ s t u : State, runEvents [.psnap, .pcommit] s = .next t → runEvents [.psnap, .pcommit] t = .next u →
    u.lightOut = t.lightOut ∧ u.indicatorOut = t.indicatorOut ∧ u.prevMode = t.prevMode ∧
    u.pulseTick = t.pulseTick ∧ u.flashTick = t.flashTick

/-- R191, R60: the outputs of a PCOMMIT come from the snapshot, PrevMode and LightOut alone: what the shared cells and the timer
hold by then cannot show. -/
def Obligations.OutputsDependOnTheSnapshotOnly : Prop :=
  ∀ s s' t t' : State, s.snap = s'.snap → s.prevMode = s'.prevMode → s.lightOut = s'.lightOut →
    exec .pcommit s = .next t → exec .pcommit s' = .next t' →
    t.lightOut = t'.lightOut ∧ t.indicatorOut = t'.indicatorOut ∧ t.prevMode = t'.prevMode

/-- R144: each PCOMMIT emits one acknowledge and no other event emits any. (That RST starts the count again is the model's choice,
notes/assumptions/6.md, and is left out here.) -/
def Obligations.OnlyCommitEmitsAnAcknowledge : Prop :=
  ∀ (i : Instr) (s t : State), exec i s = .next t → i ≠ .rst →
    t.acks = if i = .pcommit then s.acks + 1 else s.acks

/-- R33: every PCOMMIT writes Snap.Fault to the indicator; nothing else but reset changes it, and reset makes it Inactive. -/
def Obligations.IndicatorShowsTheSampledFault : Prop :=
  State.reset.indicatorOut = .inactive ∧ ∀ (i : Instr) (s t : State), exec i s = .next t → i ≠ .rst →
    t.indicatorOut = if i = .pcommit then (if s.snap.fault then Level.active else Level.inactive) else s.indicatorOut

/-- R35, R77: an output port is electrically high exactly when its latch is Active and the polarity is active-high, or Inactive
and active-low. -/
def Obligations.OutputPortsFollowTheirPolarity : Prop :=
  ∀ s : State,
    (lightOutPort s = true ↔ (s.lightOut = .active ↔ Config.lightActiveHigh = true)) ∧
    (faultIndPort s = true ↔ (s.indicatorOut = .active ↔ Config.indActiveHigh = true))

/-! ## Reset -/

/-- R180: RST sets every cell to its reset value, and the state the model starts from is one that RST leaves as it is. -/
def Obligations.ResetRestoresEveryCell : Prop :=
  exec .rst State.reset = .next State.reset ∧
  ∀ s : State, ∃ t, exec .rst s = .next t ∧
    t.decodedValue = 0 ∧ t.measuring = false ∧ t.fault = false ∧ t.pulseTick = 0 ∧ t.flashTick = 0 ∧
    t.timerCount = 0 ∧ t.timerRunning = false ∧ t.ovfPending = false ∧ t.prevMode = 5 ∧ t.pollPhase = .idle ∧
    t.snap = ⟨false, 0, false, 0, 0⟩ ∧ t.lightOut = .inactive ∧ t.indicatorOut = .inactive

/-- R182, R184: what the state after reset can do: PSNAP and EDGE run, the EDGE starting a measurement; TMO and PCOMMIT are stuck;
both outputs are Inactive and no mode has been commanded. -/
def Obligations.ResetIsTheLaunchState : Prop :=
  ∀ s t : State, exec .rst s = .next t →
    t.lightOut = .inactive ∧ t.indicatorOut = .inactive ∧ Mode.ofCode t.prevMode = some .undefined ∧
    (∃ u, exec .psnap t = .next u) ∧ exec .pcommit t = .refused (.notEnabled "PCOMMIT") ∧
    exec .tmo t = .refused (.notEnabled "TMO") ∧
    ∃ u, exec .edge t = .next u ∧ u.measuring = true ∧ u.pulseTick = 1 ∧ u.flashTick = 1

/-! ## Whole-machine rules -/

/-- R39: the invariants hold right after reset. -/
def Obligations.ResetSatisfiesTheInvariants : Prop :=
  BlockInv State.reset ∧ ∀ s t : State, exec .rst s = .next t → BlockInv t

/-- R39: every step keeps the invariants, whatever the environment chooses. -/
def Obligations.EveryStepKeepsTheInvariants : Prop :=
  ∀ s t : State, BlockInv s → step s = .next t → BlockInv t

/-- R40, R167: in a state that meets the invariants, no step faults. -/
def Obligations.NoStepFaultsUnderTheInvariants : Prop :=
  ∀ s : State, BlockInv s → ∀ f, step s ≠ .fault f

/-- R196, R56: left to the environment's free choices, the block never stops: every number of steps from a state that meets the
invariants reaches another such state. That an empty trace means free choices is the model's (notes/assumptions/2.md). -/
def Obligations.FreeRunsNeverStop : Prop :=
  ∀ (n : Nat) (s : State), BlockInv s → s.trace = [] →
    ∃ t, Host.Core.run Sys2Proof.core n s = .next t ∧ BlockInv t ∧ t.trace = []

/-- R167, U7, U8 (U8's fault, a reserved PrevMode, is read as in notes/assumptions/9.md): the only faults are an EDGE at an
illegal counter and a PCOMMIT at a reserved PrevMode or an illegal snapshot tick. -/
def Obligations.FaultsOnlyOnExcludedValues : Prop :=
  ∀ (i : Instr) (s : State) (f : Fault), exec i s = .fault f →
    (i = .edge ∧ f = .unreachable .counter ∧ s.measuring = false ∧ (271 < s.pulseTick.toNat ∨ 33 < s.flashTick.toNat)) ∨
    (i = .pcommit ∧ s.pollPhase = .snapped ∧
      ((f = .unreachable .mode ∧ 5 < s.prevMode.toNat) ∨
        (s.snap.measuring = false ∧ (271 < s.snap.pulseTick.toNat ∨ 33 < s.snap.flashTick.toNat))))

/-- R58, R20, R21, R22, R23: DecodedValue and Measuring are written only by EDGE and TMO, Fault only so too, set only by TMO;
RST apart. While Measuring = 0, DecodedValue changes only by TMO (R147). -/
def Obligations.OnlyHandlersWriteTheDecodedCells : Prop :=
  ∀ (i : Instr) (s t : State), exec i s = .next t → i ≠ .rst → i ≠ .tmo →
    (t.fault = true → s.fault = true ∧ i ≠ .edge) ∧
    (s.measuring = false → t.decodedValue = s.decodedValue) ∧
    (i ≠ .edge → t.decodedValue = s.decodedValue ∧ t.measuring = s.measuring ∧ t.fault = s.fault)

/-- R58, R169: the tick counters are advanced by one by a start-branch EDGE, and else changed only by a PCOMMIT, which can only
write 0; RST apart. -/
def Obligations.TickCountersAdvanceOrClear : Prop :=
  ∀ (i : Instr) (s t : State), exec i s = .next t → i ≠ .rst →
    (t.pulseTick = s.pulseTick ∧ t.flashTick = s.flashTick) ∨
    (i = .edge ∧ s.measuring = false ∧ t.pulseTick.toNat = (s.pulseTick.toNat + 1) % 272 ∧
      t.flashTick.toNat = (s.flashTick.toNat + 1) % 34) ∨
    (i = .pcommit ∧ s.snap.measuring = false ∧
      ((t.pulseTick = 0 ∧ t.flashTick = s.flashTick) ∨ (t.pulseTick = s.pulseTick ∧ t.flashTick = 0)))

/-- R58: PSNAP and PCOMMIT write no timer cell; an EDGE, a TCLK, a TMO or a timer micro-operation writes none of PrevMode,
PollPhase, the snapshot and the output latches; only PSNAP, RST apart, writes the snapshot, and it writes neither PrevMode nor an
output latch. The first clause is the model's choice and no part of R58: State.trace (log 1, DESIGN CHOICE) and State.choices
(log 2, DESIGN CHOICE), the model's own fields for the environment's choices, are written by no event, RST included. -/
def Obligations.AgentsWriteOnlyTheirOwnCells : Prop :=
  ∀ (i : Instr) (s t : State), exec i s = .next t →
    t.trace = s.trace ∧ t.choices = s.choices ∧
    (i = .psnap ∨ i = .pcommit →
      t.timerCount = s.timerCount ∧ t.timerRunning = s.timerRunning ∧ t.ovfPending = s.ovfPending) ∧
    (i ≠ .psnap → i ≠ .pcommit → i ≠ .rst →
      t.prevMode = s.prevMode ∧ t.pollPhase = s.pollPhase ∧ t.snap = s.snap ∧ t.lightOut = s.lightOut ∧
      t.indicatorOut = s.indicatorOut) ∧
    (i ≠ .psnap → i ≠ .rst → t.snap = s.snap) ∧
    (i = .psnap → t.prevMode = s.prevMode ∧ t.lightOut = s.lightOut ∧ t.indicatorOut = s.indicatorOut)

/-- R29, R39 (invariant 7): PrevMode changes only in an evaluated PCOMMIT that computes a mode other than Undefined, and then
becomes that mode's code; so only RST makes it Undefined. -/
def Obligations.PrevModeHoldsTheLastCommandedMode : Prop :=
  ∀ (i : Instr) (s t : State), exec i s = .next t → i ≠ .rst →
    t.prevMode = (if i = .pcommit ∧ s.snap.measuring = false ∧ modeOf s.snap.dv ≠ .undefined
      then (modeOf s.snap.dv).code else s.prevMode) ∧
    (s.prevMode ≠ 5 → t.prevMode ≠ 5)

/-- R194, R100: in every fair infinite run, a measurement that no later edge and no reset ends times out: at some later point
Fault is set with the fallback value. (The reading of "weak fairness" is notes/assumptions/16.md.) -/
def Obligations.FairRunsTimeOutAMeasurementWithoutEdges : Prop :=
  ∀ (event : Nat → Instr) (state : Nat → State), IsRun event state → WeaklyFair event state →
    ∀ n, (state n).timerRunning = true → (∀ m, n ≤ m → event m ≠ .edge ∧ event m ≠ .rst) →
      ∃ m, n ≤ m ∧ (state m).fault = true ∧ (state m).decodedValue = fallbackValue ∧ (state m).measuring = false
end

