-- ==== Sys2Proof/Laws/State.lean ====
section
/-! SUPPORT. What each named update of State writes and what it leaves: one lemma per update and field, so that no proof
unfolds a record update. -/

namespace Sys2Proof.Machine

@[simp] theorem timerStart_decodedValue (s : State) : (timerStart s).decodedValue = s.decodedValue := rfl
@[simp] theorem timerStart_measuring (s : State) : (timerStart s).measuring = s.measuring := rfl
@[simp] theorem timerStart_fault (s : State) : (timerStart s).fault = s.fault := rfl
@[simp] theorem timerStart_pulseTick (s : State) : (timerStart s).pulseTick = s.pulseTick := rfl
@[simp] theorem timerStart_flashTick (s : State) : (timerStart s).flashTick = s.flashTick := rfl
@[simp] theorem timerStart_timerCount (s : State) : (timerStart s).timerCount = s.timerCount := rfl
@[simp] theorem timerStart_timerRunning (s : State) : (timerStart s).timerRunning = true := rfl
@[simp] theorem timerStart_ovfPending (s : State) : (timerStart s).ovfPending = s.ovfPending := rfl
@[simp] theorem timerStart_prevMode (s : State) : (timerStart s).prevMode = s.prevMode := rfl
@[simp] theorem timerStart_pollPhase (s : State) : (timerStart s).pollPhase = s.pollPhase := rfl
@[simp] theorem timerStart_snap (s : State) : (timerStart s).snap = s.snap := rfl
@[simp] theorem timerStart_lightOut (s : State) : (timerStart s).lightOut = s.lightOut := rfl
@[simp] theorem timerStart_indicatorOut (s : State) : (timerStart s).indicatorOut = s.indicatorOut := rfl
@[simp] theorem timerStart_acks (s : State) : (timerStart s).acks = s.acks := rfl
@[simp] theorem timerStart_trace (s : State) : (timerStart s).trace = s.trace := rfl
@[simp] theorem timerStart_choices (s : State) : (timerStart s).choices = s.choices := rfl

@[simp] theorem timerStop_decodedValue (s : State) : (timerStop s).decodedValue = s.decodedValue := rfl
@[simp] theorem timerStop_measuring (s : State) : (timerStop s).measuring = s.measuring := rfl
@[simp] theorem timerStop_fault (s : State) : (timerStop s).fault = s.fault := rfl
@[simp] theorem timerStop_pulseTick (s : State) : (timerStop s).pulseTick = s.pulseTick := rfl
@[simp] theorem timerStop_flashTick (s : State) : (timerStop s).flashTick = s.flashTick := rfl
@[simp] theorem timerStop_timerCount (s : State) : (timerStop s).timerCount = s.timerCount := rfl
@[simp] theorem timerStop_timerRunning (s : State) : (timerStop s).timerRunning = false := rfl
@[simp] theorem timerStop_ovfPending (s : State) : (timerStop s).ovfPending = s.ovfPending := rfl
@[simp] theorem timerStop_prevMode (s : State) : (timerStop s).prevMode = s.prevMode := rfl
@[simp] theorem timerStop_pollPhase (s : State) : (timerStop s).pollPhase = s.pollPhase := rfl
@[simp] theorem timerStop_snap (s : State) : (timerStop s).snap = s.snap := rfl
@[simp] theorem timerStop_lightOut (s : State) : (timerStop s).lightOut = s.lightOut := rfl
@[simp] theorem timerStop_indicatorOut (s : State) : (timerStop s).indicatorOut = s.indicatorOut := rfl
@[simp] theorem timerStop_acks (s : State) : (timerStop s).acks = s.acks := rfl
@[simp] theorem timerStop_trace (s : State) : (timerStop s).trace = s.trace := rfl
@[simp] theorem timerStop_choices (s : State) : (timerStop s).choices = s.choices := rfl

@[simp] theorem timerClear_decodedValue (b : Bool) (s : State) : (timerClear b s).decodedValue = s.decodedValue := rfl
@[simp] theorem timerClear_measuring (b : Bool) (s : State) : (timerClear b s).measuring = s.measuring := rfl
@[simp] theorem timerClear_fault (b : Bool) (s : State) : (timerClear b s).fault = s.fault := rfl
@[simp] theorem timerClear_pulseTick (b : Bool) (s : State) : (timerClear b s).pulseTick = s.pulseTick := rfl
@[simp] theorem timerClear_flashTick (b : Bool) (s : State) : (timerClear b s).flashTick = s.flashTick := rfl
@[simp] theorem timerClear_timerCount (b : Bool) (s : State) : (timerClear b s).timerCount = 0 := rfl
@[simp] theorem timerClear_timerRunning (b : Bool) (s : State) : (timerClear b s).timerRunning = s.timerRunning := rfl
@[simp] theorem timerClear_ovfPending (b : Bool) (s : State) : (timerClear b s).ovfPending = (s.ovfPending && !b) := rfl
@[simp] theorem timerClear_prevMode (b : Bool) (s : State) : (timerClear b s).prevMode = s.prevMode := rfl
@[simp] theorem timerClear_pollPhase (b : Bool) (s : State) : (timerClear b s).pollPhase = s.pollPhase := rfl
@[simp] theorem timerClear_snap (b : Bool) (s : State) : (timerClear b s).snap = s.snap := rfl
@[simp] theorem timerClear_lightOut (b : Bool) (s : State) : (timerClear b s).lightOut = s.lightOut := rfl
@[simp] theorem timerClear_indicatorOut (b : Bool) (s : State) : (timerClear b s).indicatorOut = s.indicatorOut := rfl
@[simp] theorem timerClear_acks (b : Bool) (s : State) : (timerClear b s).acks = s.acks := rfl
@[simp] theorem timerClear_trace (b : Bool) (s : State) : (timerClear b s).trace = s.trace := rfl
@[simp] theorem timerClear_choices (b : Bool) (s : State) : (timerClear b s).choices = s.choices := rfl

@[simp] theorem setTimerCount_decodedValue (c : Count) (s : State) : (setTimerCount c s).decodedValue = s.decodedValue := rfl
@[simp] theorem setTimerCount_measuring (c : Count) (s : State) : (setTimerCount c s).measuring = s.measuring := rfl
@[simp] theorem setTimerCount_fault (c : Count) (s : State) : (setTimerCount c s).fault = s.fault := rfl
@[simp] theorem setTimerCount_pulseTick (c : Count) (s : State) : (setTimerCount c s).pulseTick = s.pulseTick := rfl
@[simp] theorem setTimerCount_flashTick (c : Count) (s : State) : (setTimerCount c s).flashTick = s.flashTick := rfl
@[simp] theorem setTimerCount_timerCount (c : Count) (s : State) : (setTimerCount c s).timerCount = c := rfl
@[simp] theorem setTimerCount_timerRunning (c : Count) (s : State) : (setTimerCount c s).timerRunning = s.timerRunning := rfl
@[simp] theorem setTimerCount_ovfPending (c : Count) (s : State) : (setTimerCount c s).ovfPending = s.ovfPending := rfl
@[simp] theorem setTimerCount_prevMode (c : Count) (s : State) : (setTimerCount c s).prevMode = s.prevMode := rfl
@[simp] theorem setTimerCount_pollPhase (c : Count) (s : State) : (setTimerCount c s).pollPhase = s.pollPhase := rfl
@[simp] theorem setTimerCount_snap (c : Count) (s : State) : (setTimerCount c s).snap = s.snap := rfl
@[simp] theorem setTimerCount_lightOut (c : Count) (s : State) : (setTimerCount c s).lightOut = s.lightOut := rfl
@[simp] theorem setTimerCount_indicatorOut (c : Count) (s : State) : (setTimerCount c s).indicatorOut = s.indicatorOut := rfl
@[simp] theorem setTimerCount_acks (c : Count) (s : State) : (setTimerCount c s).acks = s.acks := rfl
@[simp] theorem setTimerCount_trace (c : Count) (s : State) : (setTimerCount c s).trace = s.trace := rfl
@[simp] theorem setTimerCount_choices (c : Count) (s : State) : (setTimerCount c s).choices = s.choices := rfl

@[simp] theorem writeDecoded_decodedValue (v : Count) (s : State) : (writeDecoded v s).decodedValue = v := rfl
@[simp] theorem writeDecoded_measuring (v : Count) (s : State) : (writeDecoded v s).measuring = s.measuring := rfl
@[simp] theorem writeDecoded_fault (v : Count) (s : State) : (writeDecoded v s).fault = s.fault := rfl
@[simp] theorem writeDecoded_pulseTick (v : Count) (s : State) : (writeDecoded v s).pulseTick = s.pulseTick := rfl
@[simp] theorem writeDecoded_flashTick (v : Count) (s : State) : (writeDecoded v s).flashTick = s.flashTick := rfl
@[simp] theorem writeDecoded_timerCount (v : Count) (s : State) : (writeDecoded v s).timerCount = s.timerCount := rfl
@[simp] theorem writeDecoded_timerRunning (v : Count) (s : State) : (writeDecoded v s).timerRunning = s.timerRunning := rfl
@[simp] theorem writeDecoded_ovfPending (v : Count) (s : State) : (writeDecoded v s).ovfPending = s.ovfPending := rfl
@[simp] theorem writeDecoded_prevMode (v : Count) (s : State) : (writeDecoded v s).prevMode = s.prevMode := rfl
@[simp] theorem writeDecoded_pollPhase (v : Count) (s : State) : (writeDecoded v s).pollPhase = s.pollPhase := rfl
@[simp] theorem writeDecoded_snap (v : Count) (s : State) : (writeDecoded v s).snap = s.snap := rfl
@[simp] theorem writeDecoded_lightOut (v : Count) (s : State) : (writeDecoded v s).lightOut = s.lightOut := rfl
@[simp] theorem writeDecoded_indicatorOut (v : Count) (s : State) : (writeDecoded v s).indicatorOut = s.indicatorOut := rfl
@[simp] theorem writeDecoded_acks (v : Count) (s : State) : (writeDecoded v s).acks = s.acks := rfl
@[simp] theorem writeDecoded_trace (v : Count) (s : State) : (writeDecoded v s).trace = s.trace := rfl
@[simp] theorem writeDecoded_choices (v : Count) (s : State) : (writeDecoded v s).choices = s.choices := rfl

@[simp] theorem setTicks_decodedValue (p : PulseTick) (f : FlashTick) (s : State) : (setTicks p f s).decodedValue = s.decodedValue := rfl
@[simp] theorem setTicks_measuring (p : PulseTick) (f : FlashTick) (s : State) : (setTicks p f s).measuring = s.measuring := rfl
@[simp] theorem setTicks_fault (p : PulseTick) (f : FlashTick) (s : State) : (setTicks p f s).fault = s.fault := rfl
@[simp] theorem setTicks_pulseTick (p : PulseTick) (f : FlashTick) (s : State) : (setTicks p f s).pulseTick = p := rfl
@[simp] theorem setTicks_flashTick (p : PulseTick) (f : FlashTick) (s : State) : (setTicks p f s).flashTick = f := rfl
@[simp] theorem setTicks_timerCount (p : PulseTick) (f : FlashTick) (s : State) : (setTicks p f s).timerCount = s.timerCount := rfl
@[simp] theorem setTicks_timerRunning (p : PulseTick) (f : FlashTick) (s : State) : (setTicks p f s).timerRunning = s.timerRunning := rfl
@[simp] theorem setTicks_ovfPending (p : PulseTick) (f : FlashTick) (s : State) : (setTicks p f s).ovfPending = s.ovfPending := rfl
@[simp] theorem setTicks_prevMode (p : PulseTick) (f : FlashTick) (s : State) : (setTicks p f s).prevMode = s.prevMode := rfl
@[simp] theorem setTicks_pollPhase (p : PulseTick) (f : FlashTick) (s : State) : (setTicks p f s).pollPhase = s.pollPhase := rfl
@[simp] theorem setTicks_snap (p : PulseTick) (f : FlashTick) (s : State) : (setTicks p f s).snap = s.snap := rfl
@[simp] theorem setTicks_lightOut (p : PulseTick) (f : FlashTick) (s : State) : (setTicks p f s).lightOut = s.lightOut := rfl
@[simp] theorem setTicks_indicatorOut (p : PulseTick) (f : FlashTick) (s : State) : (setTicks p f s).indicatorOut = s.indicatorOut := rfl
@[simp] theorem setTicks_acks (p : PulseTick) (f : FlashTick) (s : State) : (setTicks p f s).acks = s.acks := rfl
@[simp] theorem setTicks_trace (p : PulseTick) (f : FlashTick) (s : State) : (setTicks p f s).trace = s.trace := rfl
@[simp] theorem setTicks_choices (p : PulseTick) (f : FlashTick) (s : State) : (setTicks p f s).choices = s.choices := rfl

@[simp] theorem clearTicks_decodedValue (cF cP : Bool) (s : State) : (clearTicks cF cP s).decodedValue = s.decodedValue := rfl
@[simp] theorem clearTicks_measuring (cF cP : Bool) (s : State) : (clearTicks cF cP s).measuring = s.measuring := rfl
@[simp] theorem clearTicks_fault (cF cP : Bool) (s : State) : (clearTicks cF cP s).fault = s.fault := rfl
@[simp] theorem clearTicks_pulseTick (cF cP : Bool) (s : State) : (clearTicks cF cP s).pulseTick = if cP then 0 else s.pulseTick := rfl
@[simp] theorem clearTicks_flashTick (cF cP : Bool) (s : State) : (clearTicks cF cP s).flashTick = if cF then 0 else s.flashTick := rfl
@[simp] theorem clearTicks_timerCount (cF cP : Bool) (s : State) : (clearTicks cF cP s).timerCount = s.timerCount := rfl
@[simp] theorem clearTicks_timerRunning (cF cP : Bool) (s : State) : (clearTicks cF cP s).timerRunning = s.timerRunning := rfl
@[simp] theorem clearTicks_ovfPending (cF cP : Bool) (s : State) : (clearTicks cF cP s).ovfPending = s.ovfPending := rfl
@[simp] theorem clearTicks_prevMode (cF cP : Bool) (s : State) : (clearTicks cF cP s).prevMode = s.prevMode := rfl
@[simp] theorem clearTicks_pollPhase (cF cP : Bool) (s : State) : (clearTicks cF cP s).pollPhase = s.pollPhase := rfl
@[simp] theorem clearTicks_snap (cF cP : Bool) (s : State) : (clearTicks cF cP s).snap = s.snap := rfl
@[simp] theorem clearTicks_lightOut (cF cP : Bool) (s : State) : (clearTicks cF cP s).lightOut = s.lightOut := rfl
@[simp] theorem clearTicks_indicatorOut (cF cP : Bool) (s : State) : (clearTicks cF cP s).indicatorOut = s.indicatorOut := rfl
@[simp] theorem clearTicks_acks (cF cP : Bool) (s : State) : (clearTicks cF cP s).acks = s.acks := rfl
@[simp] theorem clearTicks_trace (cF cP : Bool) (s : State) : (clearTicks cF cP s).trace = s.trace := rfl
@[simp] theorem clearTicks_choices (cF cP : Bool) (s : State) : (clearTicks cF cP s).choices = s.choices := rfl

@[simp] theorem takeSnapshot_decodedValue (s : State) : (takeSnapshot s).decodedValue = s.decodedValue := rfl
@[simp] theorem takeSnapshot_measuring (s : State) : (takeSnapshot s).measuring = s.measuring := rfl
@[simp] theorem takeSnapshot_fault (s : State) : (takeSnapshot s).fault = s.fault := rfl
@[simp] theorem takeSnapshot_pulseTick (s : State) : (takeSnapshot s).pulseTick = s.pulseTick := rfl
@[simp] theorem takeSnapshot_flashTick (s : State) : (takeSnapshot s).flashTick = s.flashTick := rfl
@[simp] theorem takeSnapshot_timerCount (s : State) : (takeSnapshot s).timerCount = s.timerCount := rfl
@[simp] theorem takeSnapshot_timerRunning (s : State) : (takeSnapshot s).timerRunning = s.timerRunning := rfl
@[simp] theorem takeSnapshot_ovfPending (s : State) : (takeSnapshot s).ovfPending = s.ovfPending := rfl
@[simp] theorem takeSnapshot_prevMode (s : State) : (takeSnapshot s).prevMode = s.prevMode := rfl
@[simp] theorem takeSnapshot_pollPhase (s : State) : (takeSnapshot s).pollPhase = s.pollPhase := rfl
@[simp] theorem takeSnapshot_snap (s : State) : (takeSnapshot s).snap = ⟨s.measuring, s.decodedValue, s.fault, s.pulseTick, s.flashTick⟩ := rfl
@[simp] theorem takeSnapshot_lightOut (s : State) : (takeSnapshot s).lightOut = s.lightOut := rfl
@[simp] theorem takeSnapshot_indicatorOut (s : State) : (takeSnapshot s).indicatorOut = s.indicatorOut := rfl
@[simp] theorem takeSnapshot_acks (s : State) : (takeSnapshot s).acks = s.acks := rfl
@[simp] theorem takeSnapshot_trace (s : State) : (takeSnapshot s).trace = s.trace := rfl
@[simp] theorem takeSnapshot_choices (s : State) : (takeSnapshot s).choices = s.choices := rfl

@[simp] theorem setPollPhase_decodedValue (p : PollPhase) (s : State) : (setPollPhase p s).decodedValue = s.decodedValue := rfl
@[simp] theorem setPollPhase_measuring (p : PollPhase) (s : State) : (setPollPhase p s).measuring = s.measuring := rfl
@[simp] theorem setPollPhase_fault (p : PollPhase) (s : State) : (setPollPhase p s).fault = s.fault := rfl
@[simp] theorem setPollPhase_pulseTick (p : PollPhase) (s : State) : (setPollPhase p s).pulseTick = s.pulseTick := rfl
@[simp] theorem setPollPhase_flashTick (p : PollPhase) (s : State) : (setPollPhase p s).flashTick = s.flashTick := rfl
@[simp] theorem setPollPhase_timerCount (p : PollPhase) (s : State) : (setPollPhase p s).timerCount = s.timerCount := rfl
@[simp] theorem setPollPhase_timerRunning (p : PollPhase) (s : State) : (setPollPhase p s).timerRunning = s.timerRunning := rfl
@[simp] theorem setPollPhase_ovfPending (p : PollPhase) (s : State) : (setPollPhase p s).ovfPending = s.ovfPending := rfl
@[simp] theorem setPollPhase_prevMode (p : PollPhase) (s : State) : (setPollPhase p s).prevMode = s.prevMode := rfl
@[simp] theorem setPollPhase_pollPhase (p : PollPhase) (s : State) : (setPollPhase p s).pollPhase = p := rfl
@[simp] theorem setPollPhase_snap (p : PollPhase) (s : State) : (setPollPhase p s).snap = s.snap := rfl
@[simp] theorem setPollPhase_lightOut (p : PollPhase) (s : State) : (setPollPhase p s).lightOut = s.lightOut := rfl
@[simp] theorem setPollPhase_indicatorOut (p : PollPhase) (s : State) : (setPollPhase p s).indicatorOut = s.indicatorOut := rfl
@[simp] theorem setPollPhase_acks (p : PollPhase) (s : State) : (setPollPhase p s).acks = s.acks := rfl
@[simp] theorem setPollPhase_trace (p : PollPhase) (s : State) : (setPollPhase p s).trace = s.trace := rfl
@[simp] theorem setPollPhase_choices (p : PollPhase) (s : State) : (setPollPhase p s).choices = s.choices := rfl

@[simp] theorem setPrevMode_decodedValue (m : ModeCode) (s : State) : (setPrevMode m s).decodedValue = s.decodedValue := rfl
@[simp] theorem setPrevMode_measuring (m : ModeCode) (s : State) : (setPrevMode m s).measuring = s.measuring := rfl
@[simp] theorem setPrevMode_fault (m : ModeCode) (s : State) : (setPrevMode m s).fault = s.fault := rfl
@[simp] theorem setPrevMode_pulseTick (m : ModeCode) (s : State) : (setPrevMode m s).pulseTick = s.pulseTick := rfl
@[simp] theorem setPrevMode_flashTick (m : ModeCode) (s : State) : (setPrevMode m s).flashTick = s.flashTick := rfl
@[simp] theorem setPrevMode_timerCount (m : ModeCode) (s : State) : (setPrevMode m s).timerCount = s.timerCount := rfl
@[simp] theorem setPrevMode_timerRunning (m : ModeCode) (s : State) : (setPrevMode m s).timerRunning = s.timerRunning := rfl
@[simp] theorem setPrevMode_ovfPending (m : ModeCode) (s : State) : (setPrevMode m s).ovfPending = s.ovfPending := rfl
@[simp] theorem setPrevMode_prevMode (m : ModeCode) (s : State) : (setPrevMode m s).prevMode = m := rfl
@[simp] theorem setPrevMode_pollPhase (m : ModeCode) (s : State) : (setPrevMode m s).pollPhase = s.pollPhase := rfl
@[simp] theorem setPrevMode_snap (m : ModeCode) (s : State) : (setPrevMode m s).snap = s.snap := rfl
@[simp] theorem setPrevMode_lightOut (m : ModeCode) (s : State) : (setPrevMode m s).lightOut = s.lightOut := rfl
@[simp] theorem setPrevMode_indicatorOut (m : ModeCode) (s : State) : (setPrevMode m s).indicatorOut = s.indicatorOut := rfl
@[simp] theorem setPrevMode_acks (m : ModeCode) (s : State) : (setPrevMode m s).acks = s.acks := rfl
@[simp] theorem setPrevMode_trace (m : ModeCode) (s : State) : (setPrevMode m s).trace = s.trace := rfl
@[simp] theorem setPrevMode_choices (m : ModeCode) (s : State) : (setPrevMode m s).choices = s.choices := rfl

@[simp] theorem writeOutputs_decodedValue (l n : Level) (s : State) : (writeOutputs l n s).decodedValue = s.decodedValue := rfl
@[simp] theorem writeOutputs_measuring (l n : Level) (s : State) : (writeOutputs l n s).measuring = s.measuring := rfl
@[simp] theorem writeOutputs_fault (l n : Level) (s : State) : (writeOutputs l n s).fault = s.fault := rfl
@[simp] theorem writeOutputs_pulseTick (l n : Level) (s : State) : (writeOutputs l n s).pulseTick = s.pulseTick := rfl
@[simp] theorem writeOutputs_flashTick (l n : Level) (s : State) : (writeOutputs l n s).flashTick = s.flashTick := rfl
@[simp] theorem writeOutputs_timerCount (l n : Level) (s : State) : (writeOutputs l n s).timerCount = s.timerCount := rfl
@[simp] theorem writeOutputs_timerRunning (l n : Level) (s : State) : (writeOutputs l n s).timerRunning = s.timerRunning := rfl
@[simp] theorem writeOutputs_ovfPending (l n : Level) (s : State) : (writeOutputs l n s).ovfPending = s.ovfPending := rfl
@[simp] theorem writeOutputs_prevMode (l n : Level) (s : State) : (writeOutputs l n s).prevMode = s.prevMode := rfl
@[simp] theorem writeOutputs_pollPhase (l n : Level) (s : State) : (writeOutputs l n s).pollPhase = s.pollPhase := rfl
@[simp] theorem writeOutputs_snap (l n : Level) (s : State) : (writeOutputs l n s).snap = s.snap := rfl
@[simp] theorem writeOutputs_lightOut (l n : Level) (s : State) : (writeOutputs l n s).lightOut = l := rfl
@[simp] theorem writeOutputs_indicatorOut (l n : Level) (s : State) : (writeOutputs l n s).indicatorOut = n := rfl
@[simp] theorem writeOutputs_acks (l n : Level) (s : State) : (writeOutputs l n s).acks = s.acks := rfl
@[simp] theorem writeOutputs_trace (l n : Level) (s : State) : (writeOutputs l n s).trace = s.trace := rfl
@[simp] theorem writeOutputs_choices (l n : Level) (s : State) : (writeOutputs l n s).choices = s.choices := rfl

@[simp] theorem emitAck_decodedValue (s : State) : (emitAck s).decodedValue = s.decodedValue := rfl
@[simp] theorem emitAck_measuring (s : State) : (emitAck s).measuring = s.measuring := rfl
@[simp] theorem emitAck_fault (s : State) : (emitAck s).fault = s.fault := rfl
@[simp] theorem emitAck_pulseTick (s : State) : (emitAck s).pulseTick = s.pulseTick := rfl
@[simp] theorem emitAck_flashTick (s : State) : (emitAck s).flashTick = s.flashTick := rfl
@[simp] theorem emitAck_timerCount (s : State) : (emitAck s).timerCount = s.timerCount := rfl
@[simp] theorem emitAck_timerRunning (s : State) : (emitAck s).timerRunning = s.timerRunning := rfl
@[simp] theorem emitAck_ovfPending (s : State) : (emitAck s).ovfPending = s.ovfPending := rfl
@[simp] theorem emitAck_prevMode (s : State) : (emitAck s).prevMode = s.prevMode := rfl
@[simp] theorem emitAck_pollPhase (s : State) : (emitAck s).pollPhase = s.pollPhase := rfl
@[simp] theorem emitAck_snap (s : State) : (emitAck s).snap = s.snap := rfl
@[simp] theorem emitAck_lightOut (s : State) : (emitAck s).lightOut = s.lightOut := rfl
@[simp] theorem emitAck_indicatorOut (s : State) : (emitAck s).indicatorOut = s.indicatorOut := rfl
@[simp] theorem emitAck_acks (s : State) : (emitAck s).acks = s.acks + 1 := rfl
@[simp] theorem emitAck_trace (s : State) : (emitAck s).trace = s.trace := rfl
@[simp] theorem emitAck_choices (s : State) : (emitAck s).choices = s.choices := rfl

@[simp] theorem setMeasuring_decodedValue (b : Bool) (s : State) : (setMeasuring b s).decodedValue = s.decodedValue := rfl
@[simp] theorem setMeasuring_measuring (b : Bool) (s : State) : (setMeasuring b s).measuring = b := rfl
@[simp] theorem setMeasuring_fault (b : Bool) (s : State) : (setMeasuring b s).fault = s.fault := rfl
@[simp] theorem setMeasuring_pulseTick (b : Bool) (s : State) : (setMeasuring b s).pulseTick = s.pulseTick := rfl
@[simp] theorem setMeasuring_flashTick (b : Bool) (s : State) : (setMeasuring b s).flashTick = s.flashTick := rfl
@[simp] theorem setMeasuring_timerCount (b : Bool) (s : State) : (setMeasuring b s).timerCount = s.timerCount := rfl
@[simp] theorem setMeasuring_timerRunning (b : Bool) (s : State) : (setMeasuring b s).timerRunning = s.timerRunning := rfl
@[simp] theorem setMeasuring_ovfPending (b : Bool) (s : State) : (setMeasuring b s).ovfPending = s.ovfPending := rfl
@[simp] theorem setMeasuring_prevMode (b : Bool) (s : State) : (setMeasuring b s).prevMode = s.prevMode := rfl
@[simp] theorem setMeasuring_pollPhase (b : Bool) (s : State) : (setMeasuring b s).pollPhase = s.pollPhase := rfl
@[simp] theorem setMeasuring_snap (b : Bool) (s : State) : (setMeasuring b s).snap = s.snap := rfl
@[simp] theorem setMeasuring_lightOut (b : Bool) (s : State) : (setMeasuring b s).lightOut = s.lightOut := rfl
@[simp] theorem setMeasuring_indicatorOut (b : Bool) (s : State) : (setMeasuring b s).indicatorOut = s.indicatorOut := rfl
@[simp] theorem setMeasuring_acks (b : Bool) (s : State) : (setMeasuring b s).acks = s.acks := rfl
@[simp] theorem setMeasuring_trace (b : Bool) (s : State) : (setMeasuring b s).trace = s.trace := rfl
@[simp] theorem setMeasuring_choices (b : Bool) (s : State) : (setMeasuring b s).choices = s.choices := rfl

@[simp] theorem setFault_decodedValue (b : Bool) (s : State) : (setFault b s).decodedValue = s.decodedValue := rfl
@[simp] theorem setFault_measuring (b : Bool) (s : State) : (setFault b s).measuring = s.measuring := rfl
@[simp] theorem setFault_fault (b : Bool) (s : State) : (setFault b s).fault = b := rfl
@[simp] theorem setFault_pulseTick (b : Bool) (s : State) : (setFault b s).pulseTick = s.pulseTick := rfl
@[simp] theorem setFault_flashTick (b : Bool) (s : State) : (setFault b s).flashTick = s.flashTick := rfl
@[simp] theorem setFault_timerCount (b : Bool) (s : State) : (setFault b s).timerCount = s.timerCount := rfl
@[simp] theorem setFault_timerRunning (b : Bool) (s : State) : (setFault b s).timerRunning = s.timerRunning := rfl
@[simp] theorem setFault_ovfPending (b : Bool) (s : State) : (setFault b s).ovfPending = s.ovfPending := rfl
@[simp] theorem setFault_prevMode (b : Bool) (s : State) : (setFault b s).prevMode = s.prevMode := rfl
@[simp] theorem setFault_pollPhase (b : Bool) (s : State) : (setFault b s).pollPhase = s.pollPhase := rfl
@[simp] theorem setFault_snap (b : Bool) (s : State) : (setFault b s).snap = s.snap := rfl
@[simp] theorem setFault_lightOut (b : Bool) (s : State) : (setFault b s).lightOut = s.lightOut := rfl
@[simp] theorem setFault_indicatorOut (b : Bool) (s : State) : (setFault b s).indicatorOut = s.indicatorOut := rfl
@[simp] theorem setFault_acks (b : Bool) (s : State) : (setFault b s).acks = s.acks := rfl
@[simp] theorem setFault_trace (b : Bool) (s : State) : (setFault b s).trace = s.trace := rfl
@[simp] theorem setFault_choices (b : Bool) (s : State) : (setFault b s).choices = s.choices := rfl

@[simp] theorem setOvfPending_decodedValue (b : Bool) (s : State) : (setOvfPending b s).decodedValue = s.decodedValue := rfl
@[simp] theorem setOvfPending_measuring (b : Bool) (s : State) : (setOvfPending b s).measuring = s.measuring := rfl
@[simp] theorem setOvfPending_fault (b : Bool) (s : State) : (setOvfPending b s).fault = s.fault := rfl
@[simp] theorem setOvfPending_pulseTick (b : Bool) (s : State) : (setOvfPending b s).pulseTick = s.pulseTick := rfl
@[simp] theorem setOvfPending_flashTick (b : Bool) (s : State) : (setOvfPending b s).flashTick = s.flashTick := rfl
@[simp] theorem setOvfPending_timerCount (b : Bool) (s : State) : (setOvfPending b s).timerCount = s.timerCount := rfl
@[simp] theorem setOvfPending_timerRunning (b : Bool) (s : State) : (setOvfPending b s).timerRunning = s.timerRunning := rfl
@[simp] theorem setOvfPending_ovfPending (b : Bool) (s : State) : (setOvfPending b s).ovfPending = b := rfl
@[simp] theorem setOvfPending_prevMode (b : Bool) (s : State) : (setOvfPending b s).prevMode = s.prevMode := rfl
@[simp] theorem setOvfPending_pollPhase (b : Bool) (s : State) : (setOvfPending b s).pollPhase = s.pollPhase := rfl
@[simp] theorem setOvfPending_snap (b : Bool) (s : State) : (setOvfPending b s).snap = s.snap := rfl
@[simp] theorem setOvfPending_lightOut (b : Bool) (s : State) : (setOvfPending b s).lightOut = s.lightOut := rfl
@[simp] theorem setOvfPending_indicatorOut (b : Bool) (s : State) : (setOvfPending b s).indicatorOut = s.indicatorOut := rfl
@[simp] theorem setOvfPending_acks (b : Bool) (s : State) : (setOvfPending b s).acks = s.acks := rfl
@[simp] theorem setOvfPending_trace (b : Bool) (s : State) : (setOvfPending b s).trace = s.trace := rfl
@[simp] theorem setOvfPending_choices (b : Bool) (s : State) : (setOvfPending b s).choices = s.choices := rfl

@[simp] theorem resetCells_decodedValue (s : State) : (resetCells s).decodedValue = 0 := rfl
@[simp] theorem resetCells_measuring (s : State) : (resetCells s).measuring = false := rfl
@[simp] theorem resetCells_fault (s : State) : (resetCells s).fault = false := rfl
@[simp] theorem resetCells_pulseTick (s : State) : (resetCells s).pulseTick = 0 := rfl
@[simp] theorem resetCells_flashTick (s : State) : (resetCells s).flashTick = 0 := rfl
@[simp] theorem resetCells_timerCount (s : State) : (resetCells s).timerCount = 0 := rfl
@[simp] theorem resetCells_timerRunning (s : State) : (resetCells s).timerRunning = false := rfl
@[simp] theorem resetCells_ovfPending (s : State) : (resetCells s).ovfPending = false := rfl
@[simp] theorem resetCells_prevMode (s : State) : (resetCells s).prevMode = 5 := rfl
@[simp] theorem resetCells_pollPhase (s : State) : (resetCells s).pollPhase = .idle := rfl
@[simp] theorem resetCells_snap (s : State) : (resetCells s).snap = ⟨false, 0, false, 0, 0⟩ := rfl
@[simp] theorem resetCells_lightOut (s : State) : (resetCells s).lightOut = .inactive := rfl
@[simp] theorem resetCells_indicatorOut (s : State) : (resetCells s).indicatorOut = .inactive := rfl
@[simp] theorem resetCells_acks (s : State) : (resetCells s).acks = 0 := rfl
@[simp] theorem resetCells_trace (s : State) : (resetCells s).trace = s.trace := rfl
@[simp] theorem resetCells_choices (s : State) : (resetCells s).choices = s.choices := rfl

end Sys2Proof.Machine
end

