-- ==== Sys2Proof/Laws/Ops.lean ====
section
/-! SUPPORT. What the counter advance, the timer and the two handlers can answer (rules R104, R110-R112): one lemma each, cited
instead of unfolding. -/

namespace Sys2Proof.Machine

/-- A counter advances exactly when it is legal (rule R111). -/
theorem advance_ok_iff {w : Nat} {n : Nat} {t u : BitVec w} :
    advance n t = .ok u ↔ t.toNat < n ∧ u = BitVec.ofNat w ((t.toNat + 1) % n) := by
  unfold advance
  split <;> simp_all [eq_comm]

/-- The only fault of an advance is the illegal counter (rule R111). -/
theorem advance_error_iff {w : Nat} {n : Nat} {t : BitVec w} {u : Unreachable} :
    advance n t = .error u ↔ n ≤ t.toNat ∧ u = .counter := by
  unfold advance
  split
  · simp; omega
  · simp [eq_comm]; omega

/-- An advanced counter is legal. -/
theorem advance_toNat_lt {w : Nat} {n : Nat} {t u : BitVec w} (hn : n ≤ 2 ^ w) (h : advance n t = .ok u) : u.toNat < n := by
  obtain ⟨ht, rfl⟩ := advance_ok_iff.mp h
  have hlt : (t.toNat + 1) % n < n := Nat.mod_lt _ (by omega)
  rw [BitVec.toNat_ofNat, Nat.mod_eq_of_lt (by omega)]
  exact hlt

/-- The start branch answers exactly when both counters are legal. -/
theorem startMeasurement_ok_iff {s t : State} :
    startMeasurement s = .ok t ↔
      ∃ p f, advance pulsePeriod s.pulseTick = .ok p ∧ advance flashPeriod s.flashTick = .ok f ∧
        t = setTicks p f (setMeasuring true (timerStart s)) := by
  unfold startMeasurement
  cases hp : advance pulsePeriod s.pulseTick with
  | error u => simp
  | ok p =>
    cases hf : advance flashPeriod s.flashTick with
    | error u => simp
    | ok f => simp [eq_comm]

/-- The start branch's only fault is an illegal counter. -/
theorem startMeasurement_error {s : State} {u : Unreachable} (h : startMeasurement s = .error u) :
    u = .counter ∧ (pulsePeriod ≤ s.pulseTick.toNat ∨ flashPeriod ≤ s.flashTick.toNat) := by
  unfold startMeasurement at h
  split at h
  · cases h
    rename_i hp
    exact ⟨(advance_error_iff.mp hp).2, .inl (advance_error_iff.mp hp).1⟩
  · split at h
    · cases h
      rename_i hf
      exact ⟨(advance_error_iff.mp hf).2, .inr (advance_error_iff.mp hf).1⟩
    · cases h

/-- Everything `on_edge()` can answer (rule R110). -/
theorem onEdge_ok_cases {b : Bool} {s t : State} (h : onEdge b s = .ok t) :
    (s.measuring = true ∧ t = setFault false (completeMeasurement b s)) ∨
      (s.measuring = false ∧ ∃ p f, advance pulsePeriod s.pulseTick = .ok p ∧ advance flashPeriod s.flashTick = .ok f ∧
        t = setFault false (setTicks p f (setMeasuring true (timerStart s)))) := by
  unfold onEdge at h
  split at h
  · rename_i hm
    cases h
    exact .inl ⟨hm, rfl⟩
  · rename_i hm
    split at h
    · cases h
    · rename_i u hu
      cases h
      obtain ⟨p, f, hp, hf, rfl⟩ := startMeasurement_ok_iff.mp hu
      exact .inr ⟨by simpa using hm, p, f, hp, hf, rfl⟩

/-- `on_edge()` stops only in the start branch at an illegal counter (rule R111). -/
theorem onEdge_error {b : Bool} {s : State} {u : Unreachable} (h : onEdge b s = .error u) :
    s.measuring = false ∧ u = .counter ∧ (pulsePeriod ≤ s.pulseTick.toNat ∨ flashPeriod ≤ s.flashTick.toNat) := by
  unfold onEdge at h
  split at h
  · cases h
  · rename_i hm
    split at h
    · rename_i hu
      cases h
      exact ⟨by simpa using hm, startMeasurement_error hu⟩
    · cases h

/-- Everything one count of a running timer can do (rule R104). -/
theorem countOnce_cases (s : State) :
    (s.timerCount = timerMax ∧ countOnce s = setOvfPending true (setTimerCount 0 s)) ∨
      (s.timerCount ≠ timerMax ∧ countOnce s = setTimerCount (s.timerCount + 1) s) := by
  unfold countOnce
  split <;> simp_all

end Sys2Proof.Machine
end

