-- ==== Sys2Proof/Laws/Pattern.lean ====
section
/-! SUPPORT. What the pattern functions, the generator, the supervisor and PCOMMIT's write-back can answer (rules R120-R129,
R142, R143). -/

namespace Sys2Proof.Machine

@[simp] theorem supervise_fault (g : Drive) (c : Level) : supervise true g c = (.active, .active) := rfl
@[simp] theorem supervise_hold (c : Level) : supervise false .hold c = (c, .inactive) := rfl
@[simp] theorem supervise_level (l c : Level) : supervise false (.level l) c = (l, .inactive) := rfl

/-- The indicator is Active exactly when the sampled Fault is 1 (rules R33, R143). -/
theorem supervise_snd (f : Bool) (g : Drive) (c : Level) :
    (supervise f g c).2 = if f then Level.active else Level.inactive := by
  cases f <;> cases g <;> rfl

/-- The codes of rule R75 read back as their modes. -/
@[simp] theorem Mode.ofCode_code (m : Mode) : Mode.ofCode m.code = some m := by
  cases m <;> rfl

/-- A legal code names a mode; a reserved one does not (rule R75). -/
theorem Mode.ofCode_eq_none_iff (c : ModeCode) : Mode.ofCode c = none ↔ 5 < c.toNat := by
  revert c
  decide

/-- Every legal flash tick has a level (rule R126). -/
theorem flashOut_total {t : FlashTick} (h : t.toNat ≤ 33) : ∃ l, flashOut t = .ok l := by
  have key : ∀ n, n < 34 → ((lookup flashTable n).isSome = true) := by decide
  have hlt : t.toNat < flashPeriod := by simp only [flashPeriod]; omega
  obtain ⟨l, hl⟩ := Option.isSome_iff_exists.mp (key t.toNat hlt)
  exact ⟨l, by simp [flashOut, tableOut, hlt, hl]⟩

set_option maxRecDepth 4000 in
/-- Every tick of the SOS table has a level (rule R126). -/
theorem sosLookup_isSome : ∀ n, n < 272 → (lookup sosTable n).isSome = true := by decide

/-- Every legal pulse tick has an SOS level (rule R126). -/
theorem sosOut_total {t : PulseTick} (h : t.toNat ≤ 271) : ∃ l, sosOut t = .ok l := by
  have hlt : t.toNat < pulsePeriod := by simp only [pulsePeriod]; omega
  obtain ⟨l, hl⟩ := Option.isSome_iff_exists.mp (sosLookup_isSome t.toNat hlt)
  exact ⟨l, by simp [sosOut, tableOut, hlt, hl]⟩

/-- Every legal pulse tick has a Blink level (rule R121). -/
theorem blinkOut_total {t : PulseTick} (h : t.toNat ≤ 271) : ∃ l, blinkOut t = .ok l := by
  have hlt : t.toNat < pulsePeriod := by simp only [pulsePeriod]; omega
  exact ⟨_, by simp [blinkOut, hlt]; rfl⟩

/-- A mode's decision answers when its pattern does. -/
theorem driveDecision_ok_iff {r : Except Unreachable Level} {m : Mode} {cF cP : Bool} {d : Decision} :
    driveDecision r m cF cP = .ok d ↔ ∃ l, r = .ok l ∧ d = ⟨.level l, m.code, cF, cP⟩ := by
  cases r <;> simp [driveDecision, eq_comm]

/-- A mode's decision faults as its pattern does. -/
theorem driveDecision_error_iff {r : Except Unreachable Level} {m : Mode} {cF cP : Bool} {u : Unreachable} :
    driveDecision r m cF cP = .error u ↔ r = .error u := by
  cases r <;> simp [driveDecision]

/-- Everything the case analysis of an evaluated iteration can answer (rule R127). -/
theorem dispatchMode_ok_cases {n : Snapshot} {p : ModeCode} {d : Decision} (h : dispatchMode n p = .ok d) :
    (modeOf n.dv = .undefined ∧ d = holdDecision p) ∨
      (modeOf n.dv ≠ .undefined ∧ d.prevMode = (modeOf n.dv).code ∧ d.out ≠ .hold ∧
        (d.clrF = true ↔ modeOf n.dv = .flash ∧ p ≠ Mode.flash.code) ∧
        (d.clrP = true ↔ modeOf n.dv = .sos ∧ p ≠ Mode.sos.code)) := by
  unfold dispatchMode at h
  split at h <;> rename_i hm
  · cases h
    exact .inl ⟨hm, rfl⟩
  · obtain ⟨l, -, rfl⟩ := driveDecision_ok_iff.mp h
    exact .inr (by simp [hm])
  · obtain ⟨l, -, rfl⟩ := driveDecision_ok_iff.mp h
    exact .inr (by simp [hm])
  · obtain ⟨l, -, rfl⟩ := driveDecision_ok_iff.mp h
    exact .inr (by simp [hm])
  · split at h <;> rename_i hp <;> obtain ⟨l, -, rfl⟩ := driveDecision_ok_iff.mp h <;> exact .inr (by simp [hm, hp])
  · split at h <;> rename_i hp <;> obtain ⟨l, -, rfl⟩ := driveDecision_ok_iff.mp h <;> exact .inr (by simp [hm, hp])

/-- Everything Generate can answer (rules R127, R129, R146): a decision that changes nothing, or the mode's. -/
theorem generate_ok_cases {n : Snapshot} {p : ModeCode} {d : Decision} (h : generate n p = .ok d) :
    p.toNat ≤ 5 ∧
      ((n.measuring = true ∧ d = holdDecision p) ∨ (n.measuring = false ∧ dispatchMode n p = .ok d)) := by
  unfold generate at h
  split at h
  · cases h
  · rename_i m hm
    have hp : p.toNat ≤ 5 := by
      have := mt (Mode.ofCode_eq_none_iff p).mpr (by rw [hm]; simp)
      omega
    split at h
    · rename_i hb
      cases h
      exact ⟨hp, .inl ⟨hb, rfl⟩⟩
    · rename_i hb
      exact ⟨hp, .inr ⟨by simpa using hb, h⟩⟩

/-- With legal counters an evaluated iteration answers (rule R126). -/
theorem dispatchMode_total {n : Snapshot} (p : ModeCode) (hP : n.pulseTick.toNat ≤ 271) (hF : n.flashTick.toNat ≤ 33) :
    ∃ d, dispatchMode n p = .ok d := by
  obtain ⟨b, hb⟩ := blinkOut_total hP
  obtain ⟨f, hf⟩ := flashOut_total hF
  obtain ⟨q, hq⟩ := sosOut_total hP
  obtain ⟨f0, hf0⟩ := flashOut_total (t := 0) (by decide)
  obtain ⟨q0, hq0⟩ := sosOut_total (t := 0) (by decide)
  unfold dispatchMode
  split
  · exact ⟨_, rfl⟩
  · exact ⟨_, rfl⟩
  · exact ⟨_, rfl⟩
  · exact ⟨_, driveDecision_ok_iff.mpr ⟨b, hb, rfl⟩⟩
  · split
    · exact ⟨_, driveDecision_ok_iff.mpr ⟨f, hf, rfl⟩⟩
    · exact ⟨_, driveDecision_ok_iff.mpr ⟨f0, hf0, rfl⟩⟩
  · split
    · exact ⟨_, driveDecision_ok_iff.mpr ⟨q, hq, rfl⟩⟩
    · exact ⟨_, driveDecision_ok_iff.mpr ⟨q0, hq0, rfl⟩⟩

/-- With a legal PrevMode, the gate or the case analysis answers. -/
theorem generate_of_legal {n : Snapshot} {p : ModeCode} (hp : p.toNat ≤ 5) :
    generate n p = if n.measuring then .ok (holdDecision p) else dispatchMode n p := by
  unfold generate
  split
  · rename_i h
    have := (Mode.ofCode_eq_none_iff p).mp h
    omega
  · rfl

@[simp] theorem commit_decodedValue (d : Decision) (s : State) : (commit d s).decodedValue = s.decodedValue := rfl
@[simp] theorem commit_measuring (d : Decision) (s : State) : (commit d s).measuring = s.measuring := rfl
@[simp] theorem commit_fault (d : Decision) (s : State) : (commit d s).fault = s.fault := rfl
@[simp] theorem commit_pulseTick (d : Decision) (s : State) :
    (commit d s).pulseTick = if d.clrP then 0 else s.pulseTick := rfl
@[simp] theorem commit_flashTick (d : Decision) (s : State) :
    (commit d s).flashTick = if d.clrF then 0 else s.flashTick := rfl
@[simp] theorem commit_timerCount (d : Decision) (s : State) : (commit d s).timerCount = s.timerCount := rfl
@[simp] theorem commit_timerRunning (d : Decision) (s : State) : (commit d s).timerRunning = s.timerRunning := rfl
@[simp] theorem commit_ovfPending (d : Decision) (s : State) : (commit d s).ovfPending = s.ovfPending := rfl
@[simp] theorem commit_prevMode (d : Decision) (s : State) : (commit d s).prevMode = d.prevMode := rfl
@[simp] theorem commit_pollPhase (d : Decision) (s : State) : (commit d s).pollPhase = .idle := rfl
@[simp] theorem commit_snap (d : Decision) (s : State) : (commit d s).snap = s.snap := rfl
@[simp] theorem commit_lightOut (d : Decision) (s : State) :
    (commit d s).lightOut = (supervise s.snap.fault d.out s.lightOut).1 := rfl
@[simp] theorem commit_indicatorOut (d : Decision) (s : State) :
    (commit d s).indicatorOut = (supervise s.snap.fault d.out s.lightOut).2 := rfl
@[simp] theorem commit_acks (d : Decision) (s : State) : (commit d s).acks = s.acks + 1 := rfl
@[simp] theorem commit_trace (d : Decision) (s : State) : (commit d s).trace = s.trace := rfl
@[simp] theorem commit_choices (d : Decision) (s : State) : (commit d s).choices = s.choices := rfl

end Sys2Proof.Machine
end

