-- ==== Sys2Proof/Laws/PerInstr.lean ====
section
/-! SUPPORT. A statement about every instruction as syntax, one lemma per constructor: its event word is made of its table code
and four zero bits, and names it under the right verdict (rules R70-R72). -/

namespace Sys2Proof.Laws.EventWord

/-- The word of `i` has `rsv` = 0 and `i`'s code as `op`, and decoding it gives `i` back: a step if the environment may ask for
it, an internal micro-operation otherwise. -/
def Statement (i : Instr) : Prop :=
  rsvField (encode i) = 0#4 ∧ opField (encode i) = opcodeOf i ∧
    decode (encode i) = if i.wellFormed then .step i else .internal i

theorem edge : Statement .edge := by unfold Statement; decide
theorem tclk : Statement .tclk := by unfold Statement; decide
theorem tmo : Statement .tmo := by unfold Statement; decide
theorem psnap : Statement .psnap := by unfold Statement; decide
theorem pcommit : Statement .pcommit := by unfold Statement; decide
theorem rst : Statement .rst := by unfold Statement; decide
theorem tStart : Statement .tStart := by unfold Statement; decide
theorem tStoprd : Statement .tStoprd := by unfold Statement; decide
theorem tClr : Statement .tClr := by unfold Statement; decide

end Sys2Proof.Laws.EventWord
end

