-- ==== Sys2Proof/Laws/Step.lean ====
section
/-! SUPPORT. What each event can answer, said once (inversion lemmas), and what the event interface gives. -/

namespace Sys2Proof.Machine

/-- EDGE answers what `on_edge()` does. -/
theorem execEdge_next_iff {s t : State} : execEdge s = .next t ↔ onEdge Config.ovfClrOnReset s = .ok t := by
  unfold execEdge
  split <;> simp_all

/-- TCLK leaves a stopped timer alone and counts a running one (rule R104). -/
theorem execTclk_next_cases {s t : State} (h : execTclk s = .next t) :
    (s.timerRunning = false ∧ t = s) ∨ (s.timerRunning = true ∧ t = countOnce s) := by
  unfold execTclk at h
  split at h <;> cases h <;> simp_all

/-- TMO answers exactly when it is enabled (rule R113). -/
theorem execTmo_next_iff {s t : State} :
    execTmo s = .next t ↔ s.ovfPending = true ∧ t = onTimeout Config.ovfClrOnReset fallbackValue s := by
  unfold execTmo enabled
  cases s.ovfPending <;> simp [eq_comm]

/-- PSNAP answers exactly when the main loop is idle (rule R141). -/
theorem execPsnap_next_iff {s t : State} :
    execPsnap s = .next t ↔ s.pollPhase = .idle ∧ t = setPollPhase .snapped (takeSnapshot s) := by
  unfold execPsnap enabled
  cases s.pollPhase <;> simp [eq_comm]

/-- PCOMMIT answers exactly when a snapshot is held and Generate answers (rule R142). -/
theorem execPcommit_next_iff {s t : State} :
    execPcommit s = .next t ↔ s.pollPhase = .snapped ∧ ∃ d, generate s.snap s.prevMode = .ok d ∧ t = commit d s := by
  unfold execPcommit
  cases hg : generate s.snap s.prevMode with
  | error u => cases hp : s.pollPhase <;> simp [enabled, hp]
  | ok d => cases hp : s.pollPhase <;> simp [enabled, hp, eq_comm]

/-- RST always answers (rule R180). -/
theorem execRst_next_iff {s t : State} : execRst s = .next t ↔ t = resetCells s := by
  simp [execRst, eq_comm]

/-- Everything an event can do when it answers a next state: one case per branch of its rule. -/
theorem exec_next_cases {i : Instr} {s t : State} (h : exec i s = .next t) :
    (i = .edge ∧ s.measuring = true ∧ t = setFault false (completeMeasurement Config.ovfClrOnReset s)) ∨
      (i = .edge ∧ s.measuring = false ∧ ∃ p f, advance pulsePeriod s.pulseTick = .ok p ∧
        advance flashPeriod s.flashTick = .ok f ∧ t = setFault false (setTicks p f (setMeasuring true (timerStart s)))) ∨
      (i = .tclk ∧ s.timerRunning = false ∧ t = s) ∨
      (i = .tclk ∧ s.timerRunning = true ∧ t = countOnce s) ∨
      (i = .tmo ∧ s.ovfPending = true ∧ t = onTimeout Config.ovfClrOnReset fallbackValue s) ∨
      (i = .psnap ∧ s.pollPhase = .idle ∧ t = setPollPhase .snapped (takeSnapshot s)) ∨
      (i = .pcommit ∧ s.pollPhase = .snapped ∧ ∃ d, generate s.snap s.prevMode = .ok d ∧ t = commit d s) ∨
      (i = .rst ∧ t = resetCells s) ∨ (i = .tStart ∧ t = timerStart s) ∨ (i = .tStoprd ∧ t = timerStop s) ∨
      (i = .tClr ∧ t = timerClear Config.ovfClrOnReset s) := by
  cases i <;> simp only [exec] at h <;> simp
  · simpa using onEdge_ok_cases (execEdge_next_iff.mp h)
  · exact execTclk_next_cases h
  · exact execTmo_next_iff.mp h
  · exact execPsnap_next_iff.mp h
  · exact execPcommit_next_iff.mp h
  · exact execRst_next_iff.mp h
  all_goals
    cases h
    rfl

/-- Events neither read nor write the trace: the environment's further choices do not show in an event's outcome. -/
theorem exec_withTrace (i : Instr) (s : State) (l : List EventWord) :
    exec i { s with trace := l } =
      match exec i s with
      | .next t => .next { t with trace := l }
      | .fault f => .fault f
      | .refused r => .refused r := by
  cases i with
  | edge =>
    cases hm : s.measuring
    · cases hp : advance pulsePeriod s.pulseTick <;> cases hf : advance flashPeriod s.flashTick <;>
        simp [exec, execEdge, onEdge, startMeasurement, hm, hp, hf]
      rfl
    · simp [exec, execEdge, onEdge, hm]
      rfl
  | tclk =>
    by_cases hr : s.timerRunning = true <;> by_cases hc : s.timerCount = 255#8 <;>
      simp [exec, execTclk, countOnce, hr, hc] <;> rfl
  | tmo =>
    by_cases ho : s.ovfPending = true <;> simp [exec, execTmo, enabled, ho]
    rfl
  | psnap =>
    cases hp : s.pollPhase <;> simp [exec, execPsnap, enabled, hp]
    rfl
  | pcommit =>
    cases hp : s.pollPhase <;> cases hg : generate s.snap s.prevMode <;>
      simp [exec, execPcommit, enabled, hp, hg]
    rfl
  | _ => rfl

/-- The enabled steps are the ones `enabled` names. -/
theorem mem_enabledSteps (s : State) (i : Instr) : i ∈ enabledSteps s ↔ enabled s i = true := by
  unfold enabledSteps
  cases i <;> simp [enabled]

/-- A free choice falls on an enabled step, whatever the choice is. -/
theorem pickEnabled_enabled (n : Nat) (s : State) : enabled s (pickEnabled n s) = true := by
  have hpos : 0 < (enabledSteps s).length :=
    List.length_pos_of_mem ((mem_enabledSteps s .edge).mpr rfl)
  have hlt : n % (enabledSteps s).length < (enabledSteps s).length := Nat.mod_lt _ hpos
  unfold pickEnabled
  rw [List.getD_eq_getElem _ _ hlt]
  exact (mem_enabledSteps s _).mp (List.getElem_mem hlt)

/-- Everything the event interface can give (rules R56, R72). -/
theorem fetch_cases (s : State) :
    (s.trace = [] ∧
        fetch s = .run (pickEnabled (Config.freeChoice s.choices) s) { s with choices := s.choices + 1 }) ∨
      ∃ w rest, s.trace = w :: rest ∧
        ((∃ i, decode w = .step i ∧ fetch s = .run i { s with trace := rest }) ∨
          (∃ i, decode w = .internal i ∧ fetch s = .refuse (.internalWord i.mnemonic)) ∨
          (∃ v, decode w = .invalid v ∧ fetch s = .refuse (.invalidWord v))) := by
  unfold fetch
  split
  · rename_i w rest h
    refine .inr ⟨w, rest, h, ?_⟩
    cases hd : decode w <;> simp
  · rename_i h
    exact .inl ⟨h, rfl⟩

end Sys2Proof.Machine
end

