-- ==== Sys2Proof/Laws/Runs.lean ====
section
/-! SUPPORT. How finite runs come apart, and how the word of an instruction is fetched. -/

namespace Sys2Proof.Machine

/-- A run that answers takes its first event, and then the rest. -/
theorem runEvents_cons {i : Instr} {is : List Instr} {s t : State} :
    runEvents (i :: is) s = .next t ↔ ∃ u, exec i s = .next u ∧ runEvents is u = .next t := by
  cases h : exec i s <;> simp [runEvents, h]

/-- A run over two lists is the one after the other. -/
theorem runEvents_append {is js : List Instr} {s t : State} :
    runEvents (is ++ js) s = .next t ↔ ∃ u, runEvents is s = .next u ∧ runEvents js u = .next t := by
  induction is generalizing s with
  | nil => simp [runEvents]
  | cons i is ih =>
    simp only [List.cons_append, runEvents_cons, ih]
    constructor
    · rintro ⟨v, hv, u, hu, ht⟩
      exact ⟨u, ⟨v, hv, hu⟩, ht⟩
    · rintro ⟨u, ⟨v, hv, hu⟩, ht⟩
      exact ⟨v, hv, u, hu, ht⟩

/-- The word of a well-formed event at the head of the trace is taken by the next step (rules R56, R72). -/
theorem step_encode {i : Instr} (hi : i.wellFormed = true) {s : State} {rest : List EventWord}
    (h : s.trace = encode i :: rest) : step s = exec i { s with trace := rest } := by
  have hd : decode (encode i) = .step i := by
    revert hi
    cases i <;> decide
  simp [step, fetch, h, hd]

end Sys2Proof.Machine
end

