-- ==== Sys2Proof/Tests/Slice0.lean ====
section
/-! SUPPORT. Tests whose expected results are the vectors of spec/95_test_vectors.md (V-..., L1-...) or words written out from
rule R71, and one or more witnesses for the hypotheses of every obligation that has some. -/

namespace Sys2Proof.Tests

open Sys2Proof Sys2Proof.Machine

/-- Whether an outcome is a next state with a property. -/
def answers (o : Host.Outcome State Fault Refusal) (p : State → Bool) : Bool :=
  match o with
  | .next t => p t
  | _ => false

/-- Whether an outcome is a given refusal. -/
def refuses (o : Host.Outcome State Fault Refusal) (r : Refusal) : Bool :=
  match o with
  | .refused q => decide (q = r)
  | _ => false

/-- Whether an outcome is a given fault. -/
def faults (o : Host.Outcome State Fault Refusal) (f : Fault) : Bool :=
  match o with
  | .fault g => decide (g = f)
  | _ => false

/-- A state in which a measurement runs with a given count. -/
def counting (c : Count) (ovf : Bool) : State :=
  { State.reset with measuring := true, timerRunning := true, timerCount := c, ovfPending := ovf }

/-- A state that holds a snapshot with a given value and ticks. -/
def holding (dv : Count) (p : PulseTick) (f : FlashTick) (prev : ModeCode) (light : Level) : State :=
  { State.reset with
    pollPhase := .snapped
    snap := { measuring := false, dv := dv, fault := false, pulseTick := p, flashTick := f }
    pulseTick := p
    flashTick := f
    prevMode := prev
    lightOut := light }

/-! ## The well-formedness check: the three internal micro-operations are its ill-formed terms -/

theorem test_wellFormed_refuses_tStart : Instr.tStart.wellFormed = false := by decide
theorem test_wellFormed_refuses_tStoprd : Instr.tStoprd.wellFormed = false := by decide
theorem test_wellFormed_refuses_tClr : Instr.tClr.wellFormed = false := by decide

/-! ## Decoding: words written out bit by bit from rules R70 and R71 (V-E1 to V-E15) -/

theorem test_decode_edge : decode 0b00010000#8 = .step .edge := by decide
theorem test_decode_tclk : decode 0b00100000#8 = .step .tclk := by decide
theorem test_decode_tmo : decode 0b00110000#8 = .step .tmo := by decide
theorem test_decode_psnap : decode 0b01000000#8 = .step .psnap := by decide
theorem test_decode_pcommit : decode 0b01010000#8 = .step .pcommit := by decide
theorem test_decode_rst : decode 0b01100000#8 = .step .rst := by decide
theorem test_decode_tStart : decode 0b10000000#8 = .internal .tStart := by decide
theorem test_decode_tStoprd : decode 0b10010000#8 = .internal .tStoprd := by decide
theorem test_decode_tClr : decode 0b10100000#8 = .internal .tClr := by decide

/-- V-E10 to V-E15. -/
theorem test_decode_reserved :
    ∀ w ∈ [0x00#8, 0x70#8, 0xB0#8, 0xC0#8, 0xD0#8, 0xE0#8, 0xF0#8, 0x11#8, 0x6F#8, 0xFF#8], decode w = .invalid w := by
  decide

theorem test_decodeTableWord :
    decodeTableWord 8 0x10 = some .edge ∧ decodeTableWord 8 0xA0 = some .tClr ∧ decodeTableWord 8 0x70 = none := by
  decide

/-- R72: an internal and a reserved word are refused by name at the word. -/
theorem test_step_refuses_words :
    refuses (step (State.reset.withFetchWord 8 0x80)) (.internalWord "T.START") = true ∧
      refuses (step (State.reset.withFetchWord 8 0x6F)) (.invalidWord 0x6F#8) = true := by
  decide

theorem test_step_runs_first_word :
    answers (step (State.reset.withFetchWord 8 0x10)) (fun t => t.measuring && decide (t.trace = [])) = true := by decide

/-! ## The Pulse Timer (V-T1 to V-T9) -/

theorem test_tclk_counts : answers (exec .tclk (counting 254 false)) (fun t => decide (t.timerCount = 255) && !t.ovfPending) = true := by
  decide
theorem test_tclk_wraps : answers (exec .tclk (counting 255 false)) (fun t => decide (t.timerCount = 0) && t.ovfPending) = true := by
  decide
theorem test_tclk_stopped : answers (exec .tclk State.reset) (fun t => decide (t = State.reset)) = true := by decide
theorem test_tStart : answers (exec .tStart State.reset) (fun t => t.timerRunning && decide (t.timerCount = 0)) = true := by decide
theorem test_tStoprd :
    answers (exec .tStoprd (counting 42 false)) (fun t => !t.timerRunning && decide (t.timerCount = 42)) = true ∧
      timerRead (counting 42 false) = 42 := by
  decide
/-- V-T8, V-T9. -/
theorem test_timerClear_both_values :
    (timerClear true (counting 42 true)).ovfPending = false ∧ (timerClear false (counting 42 true)).ovfPending = true ∧
      (timerClear false (counting 42 true)).timerCount = 0 := by
  decide

/-! ## The decoder (V-A1 to V-A6, V-D1 to V-D12) -/

theorem test_advance :
    advance pulsePeriod (270 : PulseTick) = .ok 271 ∧ advance pulsePeriod (271 : PulseTick) = .ok 0 ∧
      advance flashPeriod (33 : FlashTick) = .ok 0 ∧ advance pulsePeriod (272 : PulseTick) = .error .counter ∧
      advance flashPeriod (34 : FlashTick) = .error .counter := by
  decide
/-- V-D2, V-D3: the counters wrap, and Fault clears in the start branch. -/
theorem test_edge_start :
    answers (exec .edge { State.reset with pulseTick := 271, flashTick := 33, fault := true, decodedValue := 99 })
      (fun t => t.measuring && t.timerRunning && !t.fault && decide (t.pulseTick = 0) && decide (t.flashTick = 0) &&
        decide (t.decodedValue = 99)) = true := by
  decide
/-- V-D4, and V-D7, V-D8 for both values of the parameter. -/
theorem test_edge_completion :
    answers (exec .edge (counting 100 false))
        (fun t => decide (t.decodedValue = 100) && !t.measuring && !t.timerRunning && decide (t.timerCount = 0)) = true ∧
      (match onEdge true (counting 7 true), onEdge false (counting 7 true) with
        | .ok a, .ok b => decide (a.decodedValue = 7) && !a.ovfPending && b.ovfPending
        | _, _ => false) = true := by
  decide
/-- V-D12: TMO aborts a new measurement and leaves the tick counters. -/
theorem test_tmo :
    answers (exec .tmo { counting 5 true with pulseTick := 2, flashTick := 2 })
      (fun t => t.fault && !t.measuring && !t.timerRunning && !t.ovfPending && decide (t.timerCount = 0) &&
        decide (t.pulseTick = 2) && decide (t.flashTick = 2)) = true := by
  decide
/-- V-D10, V-P15, V-P16. -/
theorem test_stuck :
    refuses (exec .tmo State.reset) (.notEnabled "TMO") = true ∧
      refuses (exec .pcommit State.reset) (.notEnabled "PCOMMIT") = true ∧
      refuses (exec .psnap { State.reset with pollPhase := .snapped }) (.notEnabled "PSNAP") = true := by
  decide

/-! ## The pattern functions (V-G1 to V-G24, L1-4, L1-5) -/

theorem test_modeOf_bounds :
    [0, 74, 75, 76, 89, 90, 91, 104, 105, 106, 119, 120, 121, 134, 135, 136, 149, 150, 151, 255].map
        (fun n => modeOf (BitVec.ofNat 8 n)) =
      [.undefined, .undefined, .undefined, .off, .off, .undefined, .on, .on, .undefined, .blink, .blink, .undefined,
       .flash, .flash, .undefined, .sos, .sos, .undefined, .undefined, .undefined] := by
  decide
/-- V-G12 to V-G14. -/
theorem test_blinkOut :
    [0, 7, 8, 15, 16, 271].map (fun n => blinkOut (BitVec.ofNat 9 n)) =
      [.ok .active, .ok .active, .ok .inactive, .ok .inactive, .ok .active, .ok .inactive] := by
  decide
/-- V-G15 to V-G18, and V-G24. -/
theorem test_flashOut :
    [0, 3, 4, 6, 7, 10, 11, 33, 34].map (fun n => flashOut (BitVec.ofNat 8 n)) =
      [.ok .active, .ok .active, .ok .inactive, .ok .inactive, .ok .active, .ok .active, .ok .inactive, .ok .inactive,
       .error .lookup] := by
  decide
/-- V-G19 to V-G24. -/
theorem test_sosOut :
    [0, 7, 8, 39, 40, 63, 64, 87, 88, 100, 215, 216, 271, 272].map (fun n => sosOut (BitVec.ofNat 9 n)) =
      [.ok .active, .ok .active, .ok .inactive, .ok .active, .ok .inactive, .ok .inactive, .ok .active, .ok .active,
       .ok .inactive, .ok .active, .ok .active, .ok .inactive, .ok .inactive, .error .lookup] := by
  decide
/-- L1-5: "The sequence has 120 active ticks". -/
theorem test_sosActive_count : ((List.range 272).filter sosActive).length = 120 := by decide +kernel

/-! ## The main loop (V-P5, V-P7, V-P10, V-P13, V-P17) -/

/-- V-P5: an entry into Flash. -/
theorem test_pcommit_flash_entry :
    answers (exec .pcommit (holding 125 9 17 0 .inactive))
      (fun t => decide (t.flashTick = 0) && decide (t.prevMode = 3) && decide (t.lightOut = .active) &&
        decide (t.pulseTick = 9) && decide (t.acks = 1) && decide (t.pollPhase = .idle)) = true := by
  decide
/-- V-P8: SOS without an entry, at PulseTick 100. -/
theorem test_pcommit_sos :
    answers (exec .pcommit (holding 140 100 0 4 .inactive))
      (fun t => decide (t.lightOut = .active) && decide (t.pulseTick = 100) && decide (t.prevMode = 4)) = true := by
  decide
/-- V-P17: the snapshot is of the cells at PSNAP. -/
theorem test_psnap :
    answers (exec .psnap { State.reset with decodedValue := 100, pulseTick := 5, flashTick := 5 })
      (fun t => decide (t.snap = ⟨false, 100, false, 5, 5⟩) && decide (t.pollPhase = .snapped)) = true := by
  decide
/-- V-S1 to V-S6. -/
theorem test_supervise :
    supervise true (.level .inactive) .inactive = (.active, .active) ∧ supervise false .hold .active = (.active, .inactive) ∧
      supervise false (.level .inactive) .active = (.inactive, .inactive) := by
  decide
/-- U8: a reserved PrevMode code is a fault; U7: so is an illegal tick that the mode reads. -/
theorem test_pcommit_faults :
    faults (exec .pcommit (holding 80 0 0 6 .inactive)) (.unreachable .mode) = true ∧
      faults (exec .pcommit (holding 140 272 0 4 .inactive)) (.unreachable .lookup) = true ∧
      faults (exec .pcommit (holding 110 272 0 4 .inactive)) (.unreachable .counter) = true := by
  decide
/-- V-R1, V-R3. -/
theorem test_rst :
    answers (exec .rst { counting 200 true with fault := true, prevMode := 4, lightOut := .active, acks := 9 })
      (fun t => decide (t = State.reset)) = true := by
  decide

/-! ## The trace syntax (rules R79, R80) -/

theorem test_assemble_pulse :
    assembleText ['r', 's', 't', '\n', 'P', 'U', 'L', 'S', 'E', ' ', '2', ' ', ';', 'x', '\n', 'p', 'o', 'l', 'l'] =
      .ok [0x60, 0x10, 0x20, 0x20, 0x10, 0x40, 0x50] := by
  decide
theorem test_assemble_rejects_internal :
    assembleText ['T', '.', 'C', 'L', 'R'] = .error (.internalMnemonic "T.CLR") ∧
      parseLine ['T', 'C', 'L', 'K', '*', '1', '2'] = .ok (.tclkTimes 12) ∧ parseLine ['N', 'O', 'P'] = .error .unknownLine := by
  decide

/-! ## Witnesses: states and operands that meet the hypotheses of the obligations -/

/-- EveryByteHasOneOfThreeVerdicts, each clause at its ends; StepRunsTheDecodedEvent. -/
theorem witness_verdicts :
    ({ State.reset with trace := [0x10] }).trace = 0x10 :: [] ∧ decode 0x10 = .step .edge ∧ decode 0x60 = .step .rst ∧
      decode 0x80 = .internal .tStart ∧ decode 0xA0 = .internal .tClr ∧ decode 0x70 = .invalid 0x70 ∧
      decode 0xB0 = .invalid 0xB0 := by
  decide
/-- AssembledTracesDecodeToTheirEvents: a list that assembles, and one that does not. -/
theorem witness_assemble :
    assemble [.poll, .pulse 1] = .ok [0x40, 0x50, 0x10, 0x20, 0x10] ∧
      assemble [.event .tClr] = .error (.internalMnemonic "T.CLR") := by
  decide
/-- FreeStepsAreEnabledSteps: no word chosen beforehand. -/
theorem witness_freeStep : State.reset.trace = [] := by decide
/-- TraceRunTakesItsEventsInOrder. -/
theorem witness_traceRun :
    (∀ i ∈ [Instr.edge, .tclk], i.wellFormed = true) ∧
      ({ State.reset with trace := [0x10, 0x20, 0x60] }).trace = [Instr.edge, .tclk].map encode ++ [0x60] := by
  decide
/-- OverflowComesOnlyFromAWrappingTclk. -/
theorem witness_overflow :
    (counting 255 false).ovfPending = false ∧
      ∃ t, exec .tclk (counting 255 false) = .next t ∧ t.ovfPending = true :=
  ⟨rfl, _, rfl, rfl⟩
/-- TimerCountIsTheNumberOfTclks: the count wraps between a PSNAP and a PCOMMIT. -/
theorem witness_timerCount :
    (∀ i ∈ [Instr.psnap, .tclk, .pcommit], quiet i = true) ∧ (counting 255 false).timerRunning = true ∧
      ∃ t, runEvents [.psnap, .tclk, .pcommit] (counting 255 false) = .next t ∧ t.ovfPending = true :=
  ⟨by decide, rfl, _, rfl, rfl⟩
/-- EdgeStartsOrCompletesAMeasurement: the start branch at the last legal ticks; the completion branch at any. -/
theorem witness_edge :
    ∃ s s' : State, s.measuring = false ∧ (s.measuring = false → s.pulseTick.toNat ≤ 271 ∧ s.flashTick.toNat ≤ 33) ∧
      s.pulseTick = 271 ∧ s.flashTick = 33 ∧ s'.measuring = true ∧
      (s'.measuring = false → s'.pulseTick.toNat ≤ 271 ∧ s'.flashTick.toNat ≤ 33) ∧ s'.pulseTick = 300 :=
  ⟨{ State.reset with pulseTick := 271, flashTick := 33 }, { counting 1 false with pulseTick := 300 }, by decide⟩
/-- CountersAdvanceModuloTheirPeriods: the first illegal value of each counter. -/
theorem witness_illegalCounter :
    ∃ s s' : State, s.measuring = false ∧ 271 < s.pulseTick.toNat ∧ s'.measuring = false ∧ 33 < s'.flashTick.toNat :=
  ⟨{ State.reset with pulseTick := 272 }, { State.reset with flashTick := 34 }, by decide⟩
/-- TimeoutForcesTheFallback, both clauses. -/
theorem witness_tmo : (counting 0 true).ovfPending = true ∧ State.reset.ovfPending = false := ⟨rfl, rfl⟩
/-- TickCountersCountMeasurementStarts: just before both counters wrap. -/
theorem witness_pulses :
    ∃ s : State, s.measuring = false ∧ s.pulseTick.toNat ≤ 271 ∧ s.flashTick.toNat ≤ 33 ∧ s.pulseTick = 271 :=
  ⟨{ State.reset with pulseTick := 271, flashTick := 33 }, by decide⟩
/-- PulseWidthIsTheNumberOfTclks: a pulse of one count with an iteration inside it. -/
theorem witness_pulseWidth :
    State.reset.measuring = false ∧ State.reset.timerCount = 0 ∧ (∀ i ∈ [Instr.psnap, .tclk, .pcommit], quiet i = true) ∧
      [Instr.psnap, .tclk, .pcommit].count .tclk ≤ 255 ∧
      ∃ t, runEvents (.edge :: [.psnap, .tclk, .pcommit] ++ [.edge]) State.reset = .next t :=
  ⟨rfl, rfl, by decide, by decide, _, rfl⟩
/-- TimeoutFiresOncePerOverflow, its last clause (a further EDGE) included. -/
theorem witness_timeoutOnce :
    (∀ i ∈ [Instr.tclk, .psnap], quiet i = true) ∧
      ∃ t, runEvents (.tmo :: [.tclk, .psnap]) (counting 0 true) = .next t ∧ ∃ u, exec .edge t = .next u :=
  ⟨by decide, _, rfl, _, rfl⟩
/-- EdgeAfterTimeoutStartsAMeasurement. -/
theorem witness_edgeAfterTimeout :
    (counting 0 true).ovfPending = true ∧ (counting 0 true).pulseTick.toNat ≤ 271 ∧ (counting 0 true).flashTick.toNat ≤ 33 := by
  decide
/-- EdgeAheadOfTimeoutDecodesTheWrappedCount: the race, with the further EDGE of its second part. -/
theorem witness_race :
    (counting 7 true).measuring = true ∧ (counting 7 true).ovfPending = true ∧
      ∃ a b, onEdge false (counting 7 true) = .ok a ∧ onEdge false a = .ok b :=
  ⟨rfl, rfl, _, _, rfl, rfl⟩
/-- SignalLostWhileIdleGivesNoTimeout. -/
theorem witness_idleLoss :
    (∀ i ∈ [Instr.tclk, .psnap], quiet i = true) ∧ State.reset.timerRunning = false ∧ State.reset.ovfPending = false ∧
      ∃ t, runEvents [.tclk, .psnap] State.reset = .next t :=
  ⟨by decide, rfl, rfl, _, rfl⟩
/-- BlinkIsASquareWave, FlashTableGivesTwoShortPulses, SosTableSpellsSos, EachTickLiesInOneWindow: the last legal ticks, and
the first ones past the tables. -/
theorem witness_ticks :
    (271 : PulseTick).toNat ≤ 271 ∧ (33 : FlashTick).toNat ≤ 33 ∧ (34 : Nat) < 35 ∧ (271 : Nat) < 272 ∧ 35 ≤ (35 : Nat) ∧
      272 ≤ (272 : Nat) := by
  decide
/-- GenerateFollowsTheModeTable: the last legal PrevMode and ticks, in SOS. -/
theorem witness_generate :
    (5 : ModeCode).toNat ≤ 5 ∧ (⟨false, 140, false, 271, 33⟩ : Snapshot).pulseTick.toNat ≤ 271 ∧
      (⟨false, 140, false, 271, 33⟩ : Snapshot).flashTick.toNat ≤ 33 := by
  decide
/-- BlinkIsASquareWave, its second clause, at the first value of the range. -/
theorem witness_blink : 105 < (106 : Count).toNat ∧ (106 : Count).toNat < 120 ∧ ∃ d, generate ⟨false, 106, false, 8, 0⟩ 5 = .ok d :=
  ⟨by decide, by decide, _, rfl⟩
/-- OffAndOnIgnoreTheTickCounters: one value in each range, at an end. -/
theorem witness_offOn :
    (75 < (76 : Count).toNat ∧ (76 : Count).toNat < 90) ∧ 90 < (104 : Count).toNat ∧ (104 : Count).toNat < 105 := by
  decide
/-- SnapshotCopiesTheSharedCells, both clauses, and CommitWritesTheDecision, its first two. -/
theorem witness_phases :
    State.reset.pollPhase = .idle ∧ (holding 140 0 0 6 .inactive).pollPhase = .snapped ∧
      generate (holding 140 0 0 6 .inactive).snap (holding 140 0 0 6 .inactive).prevMode = .error .mode := by
  decide
/-- CommitWritesTheDecision, its last clause. -/
theorem witness_pcommit :
    ∃ s : State, s.pollPhase = .snapped ∧ s.prevMode.toNat ≤ 5 ∧ s.snap.pulseTick.toNat ≤ 271 ∧ s.snap.flashTick.toNat ≤ 33 :=
  ⟨holding 140 271 33 5 .inactive, by decide⟩
/-- MeasuringGateSkipsThePattern, with a snapshot whose value and ticks no rule reads. -/
theorem witness_gate :
    ∃ s : State, s.pollPhase = .snapped ∧ s.snap.measuring = true ∧ s.prevMode.toNat ≤ 5 :=
  ⟨{ State.reset with pollPhase := .snapped, snap := ⟨true, 125, false, 300, 40⟩ }, by decide⟩
/-- DeadZoneHoldsTheOutput: values under each of its alternatives. -/
theorem witness_deadZone :
    ∀ dv ∈ [0#8, 75#8, 90#8, 105#8, 120#8, 135#8, 150#8, 255#8],
      (holding dv 0 0 3 .active).pollPhase = .snapped ∧ (holding dv 0 0 3 .active).snap.measuring = false ∧
        (holding dv 0 0 3 .active).prevMode.toNat ≤ 5 ∧
        (dv.toNat ≤ 75 ∨ dv.toNat = 90 ∨ dv.toNat = 105 ∨ dv.toNat = 120 ∨ dv.toNat = 135 ∨ 150 ≤ dv.toNat) := by
  decide
/-- FlashEntryRestartsThePattern, SosEntryRestartsThePattern. -/
theorem witness_entries :
    ∃ s s' : State, s.pollPhase = .snapped ∧ s.snap.measuring = false ∧ s.prevMode.toNat ≤ 5 ∧ s.prevMode ≠ 3 ∧
      120 < s.snap.dv.toNat ∧ s.snap.dv.toNat < 135 ∧ s'.pollPhase = .snapped ∧ s'.snap.measuring = false ∧
      s'.prevMode.toNat ≤ 5 ∧ s'.prevMode ≠ 4 ∧ 135 < s'.snap.dv.toNat ∧ s'.snap.dv.toNat < 150 :=
  ⟨holding 121 0 17 5 .inactive, holding 149 100 0 3 .inactive, by decide⟩
/-- EntryLosesAConcurrentAdvance. -/
theorem witness_lostAdvance :
    ∃ s : State, s.pollPhase = .idle ∧ s.measuring = false ∧ s.prevMode.toNat ≤ 5 ∧ s.prevMode ≠ 4 ∧
      135 < s.decodedValue.toNat ∧ s.decodedValue.toNat < 150 ∧ s.pulseTick.toNat ≤ 271 ∧ s.flashTick.toNat ≤ 33 :=
  ⟨{ State.reset with decodedValue := 140, pulseTick := 1, flashTick := 1 }, by decide⟩
/-- SecondIterationRepeatsTheOutputs: from an entry into Flash (V-P12). -/
theorem witness_secondIteration :
    ∃ s t u : State, runEvents [.psnap, .pcommit] s = .next t ∧ runEvents [.psnap, .pcommit] t = .next u ∧
      t.prevMode = 3 ∧ s.prevMode = 0 :=
  ⟨{ State.reset with decodedValue := 125, flashTick := 9, prevMode := 0 }, _, _, rfl, rfl, rfl, rfl⟩
/-- OutputsDependOnTheSnapshotOnly: two states that differ in their shared cells. -/
theorem witness_sameSnapshot :
    ∃ s s' t t' : State, s.snap = s'.snap ∧ s.prevMode = s'.prevMode ∧ s.lightOut = s'.lightOut ∧ s.fault ≠ s'.fault ∧
      exec .pcommit s = .next t ∧ exec .pcommit s' = .next t' :=
  ⟨holding 125 1 1 0 .inactive, { holding 125 1 1 0 .inactive with fault := true }, _, _, rfl, rfl, rfl, by decide, rfl, rfl⟩
/-- OnlyCommitEmitsAnAcknowledge, FaultForcesBothOutputsActive, IndicatorShowsTheSampledFault, AgentsWriteOnlyTheirOwnCells,
PrevModeHoldsTheLastCommandedMode: a PCOMMIT and a PSNAP that answer. -/
theorem witness_events :
    (∃ t, exec .pcommit (holding 125 1 1 0 .inactive) = .next t) ∧ Instr.pcommit ≠ .rst ∧
      (holding 125 1 1 0 .inactive).prevMode ≠ 5 ∧ (∃ t, exec .psnap State.reset = .next t) ∧ Instr.psnap ≠ .rst :=
  ⟨⟨_, rfl⟩, by decide, by decide, ⟨_, rfl⟩, by decide⟩
/-- OnlyHandlersWriteTheDecodedCells, TickCountersAdvanceOrClear: an EDGE that starts, and a TCLK while Fault is set. -/
theorem witness_edges :
    (∃ t, exec .edge State.reset = .next t) ∧ State.reset.measuring = false ∧ Instr.edge ≠ .rst ∧ Instr.edge ≠ .tmo ∧
      ∃ t, exec .tclk { State.reset with fault := true } = .next t ∧ t.fault = true :=
  ⟨⟨_, rfl⟩, rfl, by decide, by decide, _, rfl, rfl⟩
/-- ResetIsTheLaunchState, ResetSatisfiesTheInvariants. -/
theorem witness_rst : ∃ t, exec .rst (counting 200 true) = .next t := ⟨_, rfl⟩

/-- EveryStepKeepsTheInvariants, NoStepFaultsUnderTheInvariants, FreeRunsNeverStop: a state in the middle of a measurement that
meets the invariants, with a word to take, and with none. -/
theorem witness_invariants : BlockInv (counting 200 true) ∧ (counting 200 true).trace = [] ∧
    BlockInv { counting 200 true with trace := [0x20] } ∧ ∃ t, step { counting 200 true with trace := [0x20] } = .next t := by
  refine ⟨⟨⟨?_, ?_, ?_, ?_, ?_, ?_, ?_⟩, ⟨?_, ?_, ?_, ?_⟩, ?_⟩, rfl, ⟨⟨?_, ?_, ?_, ?_, ?_, ?_, ?_⟩, ⟨?_, ?_, ?_, ?_⟩, ?_⟩, _, rfl⟩ <;>
    simp [counting, State.reset, legalMode]
/-- FaultsOnlyOnExcludedValues: a fault under each of its cases. -/
theorem witness_faults :
    exec .edge { State.reset with pulseTick := 272 } = .fault (.unreachable .counter) ∧
      exec .pcommit (holding 80 0 0 6 .inactive) = .fault (.unreachable .mode) ∧
      exec .pcommit (holding 125 0 34 3 .inactive) = .fault (.unreachable .lookup) :=
  ⟨rfl, rfl, rfl⟩

/-! ### A fair infinite run without edges: one timeout, and then iterations with a TCLK after each -/

/-- The cells after the timeout, in iteration `k`. -/
def settled (k : Nat) (p : PollPhase) : State :=
  { State.reset with
    decodedValue := fallbackValue
    fault := true
    prevMode := 1
    pollPhase := p
    snap := ⟨false, fallbackValue, true, 0, 0⟩
    lightOut := .active
    indicatorOut := .active
    acks := k }

/-- The run's events: TMO, then PSNAP, PCOMMIT, TCLK for ever. -/
def fairEvent (n : Nat) : Instr :=
  if n = 0 then .tmo else if n % 3 = 1 then .psnap else if n % 3 = 2 then .pcommit else .tclk

/-- The run's states; in the first, a measurement has overflowed. -/
def fairState (n : Nat) : State :=
  if n = 0 then
    { settled 0 .idle with decodedValue := 7, fault := false, measuring := true, timerRunning := true, ovfPending := true }
  else settled (n / 3) (if n % 3 = 2 then .snapped else .idle)

theorem generate_fallback : generate ⟨false, fallbackValue, true, 0, 0⟩ 1 = .ok ⟨.level .active, 1, false, false⟩ := by
  have key : ∀ i : Fin 14, modeOf (BitVec.ofNat 8 (onLow + 1 + i.val)) = .on := by decide
  have hon : modeOf fallbackValue = .on := key Config.fallbackIndex
  rw [generate_of_legal (by decide)]
  simp [dispatchMode, hon, driveDecision, Mode.code]

theorem fairRun_isRun : IsRun fairEvent fairState := by
  intro n
  rcases Nat.eq_zero_or_pos n with rfl | hn
  · exact ⟨rfl, rfl⟩
  have h0 : n ≠ 0 := by omega
  have hlt : n % 3 < 3 := Nat.mod_lt _ (by omega)
  rcases (by omega : n % 3 = 1 ∨ n % 3 = 2 ∨ n % 3 = 0) with h | h | h
  · have h1 : (n + 1) % 3 = 2 := by omega
    have h2 : (n + 1) / 3 = n / 3 := by omega
    simp only [fairEvent, fairState, h0, h, h1, h2, if_true, if_false, Nat.add_one_ne_zero]
    exact ⟨rfl, rfl⟩
  · have h1 : (n + 1) % 3 = 0 := by omega
    have h2 : (n + 1) / 3 = n / 3 + 1 := by omega
    simp only [fairEvent, fairState, h0, h, h1, h2, if_false, Nat.add_one_ne_zero, reduceIte, OfNat.ofNat_ne_one]
    exact ⟨rfl, execPcommit_next_iff.mpr ⟨rfl, _, generate_fallback, rfl⟩⟩
  · have h1 : (n + 1) % 3 = 1 := by omega
    have h2 : (n + 1) / 3 = n / 3 := by omega
    simp only [fairEvent, fairState, h0, h, h1, h2, if_false, Nat.add_one_ne_zero, OfNat.one_ne_ofNat,
      OfNat.zero_ne_ofNat, zero_ne_one]
    exact ⟨rfl, rfl⟩

/-- FairRunsTimeOutAMeasurementWithoutEdges. -/
theorem witness_fairRun :
    IsRun fairEvent fairState ∧ WeaklyFair fairEvent fairState ∧ (fairState 0).timerRunning = true ∧
      ∀ m, 0 ≤ m → fairEvent m ≠ .edge ∧ fairEvent m ≠ .rst := by
  have idle : ∀ n, (fairState (n + 1)).ovfPending = false ∧ (fairState (n + 1)).timerRunning = false :=
    fun n => ⟨rfl, rfl⟩
  refine ⟨fairRun_isRun, ⟨fun n => ⟨3 * n + 1, by omega, .inl ?_⟩, fun n h => ?_, fun n h => ?_⟩, rfl, fun m _ => ?_⟩
  · have h1 : (3 * n + 1) % 3 = 1 := by omega
    simp [fairEvent, h1]
  · have := h (n + 1) (by omega)
    rw [(idle n).1] at this
    cases this
  · have := h (n + 1) (by omega)
    rw [(idle n).2] at this
    cases this
  · unfold fairEvent
    split_ifs <;> decide

end Sys2Proof.Tests
end

section
/-! PROOFS. The state family: the invariants of rule R39 hold at reset and every step keeps them, so no step faults; the mode,
the indicator and the ports (rules R29, R33, R35). -/

namespace Sys2Proof.Machine

/-! ## What a step takes -/

/-- Only a word of an agent's step decodes to the verdict `Step` (rule R72). -/
theorem wellFormed_of_decode_step {w : EventWord} {i : Instr} (h : decode w = .step i) : i.wellFormed = true := by
  unfold decode at h
  split at h
  · cases h
  · split at h
    · cases h
    · split at h <;> cases h
      assumption

/-- An enabled event is a step of an agent: no internal micro-operation is enabled (rules R72, R73). -/
theorem wellFormed_of_enabled {s : State} {i : Instr} (h : enabled s i = true) : i.wellFormed = true := by
  cases i <;> simp_all [enabled, Instr.wellFormed]

/-- A step is an agent's event, taken in a state that differs only in the environment's choices, or a refusal at the event
interface (rules R56, R72). -/
theorem step_cases (s : State) :
    (∃ i trace choices, i.wellFormed = true ∧ step s = exec i { s with trace := trace, choices := choices }) ∨
      ∃ r, step s = .refused r := by
  unfold step
  obtain ⟨-, hf⟩ | ⟨w, rest, -, ⟨i, hd, hf⟩ | ⟨i, -, hf⟩ | ⟨v, -, hf⟩⟩ := fetch_cases s <;> rw [hf]
  · exact .inl ⟨_, s.trace, s.choices + 1, wellFormed_of_enabled (pickEnabled_enabled _ s), rfl⟩
  · exact .inl ⟨i, rest, s.choices, wellFormed_of_decode_step hd, rfl⟩
  · exact .inr ⟨_, rfl⟩
  · exact .inr ⟨_, rfl⟩

/-- The only events that can fault are an EDGE and a PCOMMIT, as `on_edge()` and Generate do (rule R167). -/
theorem exec_fault_cases {i : Instr} {s : State} {f : Fault} (h : exec i s = .fault f) :
    (i = .edge ∧ ∃ u, onEdge Config.ovfClrOnReset s = .error u) ∨
      (i = .pcommit ∧ ∃ u, generate s.snap s.prevMode = .error u) := by
  cases i <;> simp only [exec] at h
  case edge =>
    cases he : onEdge Config.ovfClrOnReset s with
    | ok t => simp [execEdge, he] at h
    | error u => exact .inl ⟨rfl, u, rfl⟩
  case pcommit =>
    cases hg : generate s.snap s.prevMode with
    | ok d => cases hp : s.pollPhase <;> simp [execPcommit, enabled, hp, hg] at h
    | error u => exact .inr ⟨rfl, u, rfl⟩
  case tclk => unfold execTclk at h; split at h <;> cases h
  case tmo => unfold execTmo at h; split at h <;> cases h
  case psnap => unfold execPsnap at h; split at h <;> cases h
  all_goals cases h

/-! ## The mode and the output latches -/

section Count
variable (s : State)

/-- A timer count writes two timer cells only (rule R104). -/
theorem countOnce_eq_update : ∃ c o, countOnce s = { s with timerCount := c, ovfPending := o } := by
  obtain ⟨-, ht⟩ | ⟨-, ht⟩ := countOnce_cases s
  · exact ⟨0, true, ht⟩
  · exact ⟨s.timerCount + 1, s.ovfPending, ht⟩

@[simp] theorem countOnce_prevMode : (countOnce s).prevMode = s.prevMode := by
  obtain ⟨c, o, h⟩ := countOnce_eq_update s
  rw [h]
@[simp] theorem countOnce_lightOut : (countOnce s).lightOut = s.lightOut := by
  obtain ⟨c, o, h⟩ := countOnce_eq_update s
  rw [h]
@[simp] theorem countOnce_indicatorOut : (countOnce s).indicatorOut = s.indicatorOut := by
  obtain ⟨c, o, h⟩ := countOnce_eq_update s
  rw [h]
@[simp] theorem countOnce_snap : (countOnce s).snap = s.snap := by
  obtain ⟨c, o, h⟩ := countOnce_eq_update s
  rw [h]

end Count

/-- Only PCOMMIT and RST write PrevMode and the output latches (rule R58). -/
theorem exec_keeps_mode_outputs {i : Instr} {s t : State} (h : exec i s = .next t) (hc : i ≠ .pcommit) (hr : i ≠ .rst) :
    t.prevMode = s.prevMode ∧ t.lightOut = s.lightOut ∧ t.indicatorOut = s.indicatorOut := by
  rcases exec_next_cases h with
    ⟨-, -, rfl⟩ | ⟨-, -, p, f, -, -, rfl⟩ | ⟨-, -, rfl⟩ | ⟨-, -, rfl⟩ | ⟨-, -, rfl⟩ | ⟨-, -, rfl⟩ | ⟨rfl, -⟩ |
    ⟨rfl, -⟩ | ⟨-, rfl⟩ | ⟨-, rfl⟩ | ⟨-, rfl⟩
  pick_goal 7
  · exact absurd rfl hc
  pick_goal 7
  · exact absurd rfl hr
  all_goals simp [completeMeasurement, onTimeout]

/-- Every mode's code is legal (rule R75). -/
theorem legalMode_code (m : Mode) : legalMode m.code := by
  unfold legalMode
  cases m <;> decide

/-- Undefined alone has code 5 (rule R75). -/
theorem Mode.code_eq_five_iff (m : Mode) : m.code = 5 ↔ m = .undefined := by
  cases m <;> decide

/-- The PrevMode of a decision: the snapshot's mode in an evaluated iteration, unless that is Undefined (rules R29, R127). -/
theorem generate_prevMode {n : Snapshot} {p : ModeCode} {d : Decision} (h : generate n p = .ok d) :
    d.prevMode = if n.measuring = false ∧ modeOf n.dv ≠ .undefined then (modeOf n.dv).code else p := by
  obtain ⟨-, ⟨hm, rfl⟩ | ⟨hm, hd⟩⟩ := generate_ok_cases h
  · simp [hm, holdDecision]
  · obtain ⟨hu, rfl⟩ | ⟨hu, hp, -⟩ := dispatchMode_ok_cases hd
    · simp [hu, holdDecision]
    · simp [hm, hu, hp]

/-- PrevMode after any event but RST (rule R29). -/
theorem exec_prevMode {i : Instr} {s t : State} (h : exec i s = .next t) (hr : i ≠ .rst) :
    t.prevMode = if i = .pcommit ∧ s.snap.measuring = false ∧ modeOf s.snap.dv ≠ .undefined
      then (modeOf s.snap.dv).code else s.prevMode := by
  by_cases hc : i = .pcommit
  · subst hc
    obtain ⟨-, d, hd, rfl⟩ := execPcommit_next_iff.mp h
    simpa using generate_prevMode hd
  · simpa [hc] using (exec_keeps_mode_outputs h hc hr).1

/-- A legal PrevMode stays legal (rules R39, R75). -/
theorem exec_keeps_legalMode {i : Instr} {s t : State} (hs : legalMode s.prevMode) (h : exec i s = .next t) :
    legalMode t.prevMode := by
  by_cases hr : i = .rst
  · subst hr
    rw [execRst_next_iff.mp h]
    exact legalMode_code .undefined
  · rw [exec_prevMode h hr]
    split
    · exact legalMode_code _
    · exact hs

/-! ## The invariants of rule R39, operation by operation -/

/-- The reset values satisfy the cell invariants, whatever the environment has chosen. -/
theorem cellInv_resetCells (s : State) : CellInv (resetCells s) := by
  constructor <;> simp

/-- A completion stops the timer at 0 and clears Fault; an overflow stays latched only where the parameter lets it (rule R110). -/
theorem CellInv.edge_completes {s : State} (h : CellInv s) :
    CellInv (setFault false (completeMeasurement Config.ovfClrOnReset s)) where
  running_iff := rfl
  stopped_zero _ := rfl
  fault_idle := nofun
  fault_fallback := nofun
  pulse_legal := h.pulse_legal
  flash_legal := h.flash_legal
  ovf_measuring hc := by simp [completeMeasurement, hc]

/-- A measurement starts with advanced, and so legal, counters (rule R111), whatever held before. -/
theorem cellInv_edge_starts {s : State} {p : PulseTick} {f : FlashTick}
    (hp : advance pulsePeriod s.pulseTick = .ok p) (hf : advance flashPeriod s.flashTick = .ok f) :
    CellInv (setFault false (setTicks p f (setMeasuring true (timerStart s)))) where
  running_iff := rfl
  stopped_zero := nofun
  fault_idle := nofun
  fault_fallback := nofun
  pulse_legal := Nat.le_of_lt_succ (advance_toNat_lt (by decide) hp)
  flash_legal := Nat.le_of_lt_succ (advance_toNat_lt (by decide) hf)
  ovf_measuring _ _ := rfl

/-- A count of a running timer latches an overflow only while a measurement runs (rule R104). -/
theorem CellInv.count {s : State} (h : CellInv s) (hr : s.timerRunning = true) : CellInv (countOnce s) := by
  have hm : s.measuring = true := h.running_iff ▸ hr
  obtain ⟨-, ht⟩ | ⟨-, ht⟩ := countOnce_cases s <;> rw [ht]
  · exact { h with stopped_zero := fun _ => rfl, ovf_measuring := fun _ _ => hm }
  · exact { h with stopped_zero := fun hs => by simp [hr] at hs }

/-- A timeout leaves Fault set with the fallback, and the timer stopped at 0 with nothing latched (rule R112). -/
theorem CellInv.timeout {s : State} (h : CellInv s) : CellInv (onTimeout Config.ovfClrOnReset fallbackValue s) where
  running_iff := rfl
  stopped_zero _ := rfl
  fault_idle _ := rfl
  fault_fallback _ := rfl
  pulse_legal := h.pulse_legal
  flash_legal := h.flash_legal
  ovf_measuring _ := nofun

/-- A commit writes no cell that an invariant speaks of but the counters, and those only with 0 (rule R142). -/
theorem CellInv.commits {s : State} (h : CellInv s) (d : Decision) : CellInv (commit d s) :=
  { h with
    pulse_legal := by
      rw [commit_pulseTick]
      split
      · decide
      · exact h.pulse_legal
    flash_legal := by
      rw [commit_flashTick]
      split
      · decide
      · exact h.flash_legal }

/-- A snapshot of cells that satisfy the invariants satisfies its own (rules R31, R141). -/
theorem CellInv.snapshot {s : State} (h : CellInv s) : SnapInv (takeSnapshot s).snap :=
  ⟨h.fault_idle, h.fault_fallback, h.pulse_legal, h.flash_legal⟩

/-- Every agent's step keeps the cell invariants. -/
theorem exec_keeps_cellInv {i : Instr} {s t : State} (hi : i.wellFormed = true) (hs : CellInv s)
    (h : exec i s = .next t) : CellInv t := by
  rcases exec_next_cases h with
    ⟨-, -, rfl⟩ | ⟨-, -, p, f, hp, hf, rfl⟩ | ⟨-, -, rfl⟩ | ⟨-, hr, rfl⟩ | ⟨-, -, rfl⟩ | ⟨-, -, rfl⟩ |
    ⟨-, -, d, -, rfl⟩ | ⟨-, rfl⟩ | ⟨rfl, -⟩ | ⟨rfl, -⟩ | ⟨rfl, -⟩
  · exact hs.edge_completes
  · exact cellInv_edge_starts hp hf
  · exact hs
  · exact hs.count hr
  · exact hs.timeout
  · exact { hs with }
  · exact hs.commits d
  · exact cellInv_resetCells s
  all_goals cases hi

/-- The snapshot registers after any event: PSNAP copies the cells, RST clears them, and no other event writes them (rules R31,
R58). -/
theorem exec_snap_cases {i : Instr} {s t : State} (h : exec i s = .next t) :
    t.snap = s.snap ∨ t.snap = (takeSnapshot s).snap ∨ t.snap = (resetCells s).snap := by
  rcases exec_next_cases h with
    ⟨-, -, rfl⟩ | ⟨-, -, p, f, -, -, rfl⟩ | ⟨-, -, rfl⟩ | ⟨-, -, rfl⟩ | ⟨-, -, rfl⟩ | ⟨-, -, rfl⟩ |
    ⟨-, -, d, -, rfl⟩ | ⟨-, rfl⟩ | ⟨-, rfl⟩ | ⟨-, rfl⟩ | ⟨-, rfl⟩
  pick_goal 6
  · exact .inr (.inl rfl)
  pick_goal 7
  · exact .inr (.inr rfl)
  all_goals simp [completeMeasurement, onTimeout]

/-- Every event keeps the snapshot's invariants, given those of the cells it may copy. -/
theorem exec_keeps_snapInv {i : Instr} {s t : State} (hc : CellInv s) (hs : SnapInv s.snap) (h : exec i s = .next t) :
    SnapInv t.snap := by
  obtain ht | ht | ht := exec_snap_cases h <;> rw [ht]
  · exact hs
  · exact hc.snapshot
  · exact (cellInv_resetCells s).snapshot

/-- Every agent's step keeps the invariants of rule R39. -/
theorem exec_keeps_blockInv {i : Instr} {s t : State} (hi : i.wellFormed = true) (hs : BlockInv s)
    (h : exec i s = .next t) : BlockInv t :=
  ⟨exec_keeps_cellInv hi hs.cells h, exec_keeps_snapInv hs.cells hs.snap h, exec_keeps_legalMode hs.mode h⟩

/-- The invariants do not speak of the environment's choices (rule R38). -/
theorem BlockInv.withChoices {s : State} (h : BlockInv s) (trace : List EventWord) (choices : Nat) :
    BlockInv { s with trace := trace, choices := choices } :=
  ⟨{ h.cells with }, h.snap, h.mode⟩

/-- The invariants hold after RST, from any state. -/
theorem blockInv_resetCells (s : State) : BlockInv (resetCells s) :=
  ⟨cellInv_resetCells s, (cellInv_resetCells s).snapshot, legalMode_code .undefined⟩

/-! ## No fault under the invariants -/

/-- With legal counters `on_edge()` does not fault (rule R111). -/
theorem CellInv.onEdge_ne_error {s : State} (h : CellInv s) (b : Bool) (u : Unreachable) : onEdge b s ≠ .error u := by
  intro he
  obtain ⟨-, -, hP | hF⟩ := onEdge_error he
  · exact absurd h.pulse_legal (Nat.not_le_of_lt hP)
  · exact absurd h.flash_legal (Nat.not_le_of_lt hF)

/-- With a legal PrevMode and legal snapshot ticks Generate answers (rules R40, R126). -/
theorem generate_total {n : Snapshot} {p : ModeCode} (hp : p.toNat ≤ 5) (hP : n.pulseTick.toNat ≤ 271)
    (hF : n.flashTick.toNat ≤ 33) : ∃ d, generate n p = .ok d := by
  rw [generate_of_legal hp]
  split
  · exact ⟨_, rfl⟩
  · exact dispatchMode_total p hP hF

/-- No event faults in a state that meets the invariants. -/
theorem exec_ne_fault {s : State} (hs : BlockInv s) (i : Instr) (f : Fault) : exec i s ≠ .fault f := by
  intro h
  obtain ⟨-, u, hu⟩ | ⟨-, u, hu⟩ := exec_fault_cases h
  · exact hs.cells.onEdge_ne_error _ u hu
  · obtain ⟨d, hd⟩ := generate_total hs.mode hs.snap.pulse_legal hs.snap.flash_legal
    rw [hd] at hu
    cases hu

/-! ## The output ports -/

/-- A port is high exactly when the latch is Active under an active-high polarity, or Inactive under an active-low one. -/
theorem electrical_eq_true_iff (b : Bool) (l : Level) : electrical b l = true ↔ (l = .active ↔ b = true) := by
  cases l <;> simp [electrical]

/-! ## The obligations -/

/-- Settles O47: a step is an agent's event or a refusal, and every agent's event keeps the invariants. -/
theorem everyStepKeepsTheInvariants : Obligations.EveryStepKeepsTheInvariants := by
  intro s t hs h
  obtain ⟨i, trace, choices, hi, he⟩ | ⟨r, hr⟩ := step_cases s
  · exact exec_keeps_blockInv hi (hs.withChoices trace choices) (he ▸ h)
  · rw [hr] at h
    cases h

/-- Settles O48: only an illegal counter or a reserved PrevMode faults, and the invariants exclude both. -/
theorem noStepFaultsUnderTheInvariants : Obligations.NoStepFaultsUnderTheInvariants := by
  intro s hs f h
  obtain ⟨i, trace, choices, -, he⟩ | ⟨r, hr⟩ := step_cases s
  · exact exec_ne_fault (hs.withChoices trace choices) i f (he ▸ h)
  · rw [hr] at h
    cases h

/-- Settles O42: PCOMMIT writes the supervisor's indicator level, and only PCOMMIT and RST write the latch. -/
theorem indicatorShowsTheSampledFault : Obligations.IndicatorShowsTheSampledFault := by
  refine ⟨rfl, fun i s t h hr => ?_⟩
  by_cases hc : i = .pcommit
  · subst hc
    obtain ⟨-, d, -, rfl⟩ := execPcommit_next_iff.mp h
    simp [supervise_snd]
  · simpa [hc] using (exec_keeps_mode_outputs h hc hr).2.2

/-- Settles O54: the mode written is never Undefined, the one mode with code 5. -/
theorem prevModeHoldsTheLastCommandedMode : Obligations.PrevModeHoldsTheLastCommandedMode := by
  intro i s t h hr
  refine ⟨exec_prevMode h hr, fun hs => ?_⟩
  rw [exec_prevMode h hr]
  split
  next hw => exact mt (Mode.code_eq_five_iff _).mp hw.2.2
  next => exact hs

/-- Settles O43, for either value of each polarity parameter. -/
theorem outputPortsFollowTheirPolarity : Obligations.OutputPortsFollowTheirPolarity :=
  fun s => ⟨electrical_eq_true_iff Config.lightActiveHigh s.lightOut,
    electrical_eq_true_iff Config.indActiveHigh s.indicatorOut⟩

/-- Settles O46: the launch state is one that RST leaves as it is, and RST leaves the invariants whatever it met. -/
theorem resetSatisfiesTheInvariants : Obligations.ResetSatisfiesTheInvariants :=
  ⟨blockInv_resetCells State.reset, fun s _ h => execRst_next_iff.mp h ▸ blockInv_resetCells s⟩

end Sys2Proof.Machine
end

section
/-! PROOFS. The event interface and the agents' cells: a run of a trace takes its words in order, a free step is an enabled one
(rules R56, R57), and each agent writes only its own cells (rule R58). -/

namespace Sys2Proof.Machine

/-! ## What an event leaves unchanged -/

section Count
variable (s : State)

@[simp] theorem countOnce_decodedValue : (countOnce s).decodedValue = s.decodedValue := by
  obtain ⟨c, o, h⟩ := countOnce_eq_update s
  rw [h]
@[simp] theorem countOnce_measuring : (countOnce s).measuring = s.measuring := by
  obtain ⟨c, o, h⟩ := countOnce_eq_update s
  rw [h]
@[simp] theorem countOnce_fault : (countOnce s).fault = s.fault := by
  obtain ⟨c, o, h⟩ := countOnce_eq_update s
  rw [h]
@[simp] theorem countOnce_pulseTick : (countOnce s).pulseTick = s.pulseTick := by
  obtain ⟨c, o, h⟩ := countOnce_eq_update s
  rw [h]
@[simp] theorem countOnce_flashTick : (countOnce s).flashTick = s.flashTick := by
  obtain ⟨c, o, h⟩ := countOnce_eq_update s
  rw [h]
@[simp] theorem countOnce_pollPhase : (countOnce s).pollPhase = s.pollPhase := by
  obtain ⟨c, o, h⟩ := countOnce_eq_update s
  rw [h]
@[simp] theorem countOnce_trace : (countOnce s).trace = s.trace := by
  obtain ⟨c, o, h⟩ := countOnce_eq_update s
  rw [h]
@[simp] theorem countOnce_choices : (countOnce s).choices = s.choices := by
  obtain ⟨c, o, h⟩ := countOnce_eq_update s
  rw [h]

end Count

/-- No event writes the environment's choices (rule R38). -/
theorem exec_keeps_environment {i : Instr} {s t : State} (h : exec i s = .next t) :
    t.trace = s.trace ∧ t.choices = s.choices := by
  rcases exec_next_cases h with
    ⟨-, -, rfl⟩ | ⟨-, -, p, f, -, -, rfl⟩ | ⟨-, -, rfl⟩ | ⟨-, -, rfl⟩ | ⟨-, -, rfl⟩ | ⟨-, -, rfl⟩ |
    ⟨-, -, d, -, rfl⟩ | ⟨-, rfl⟩ | ⟨-, rfl⟩ | ⟨-, rfl⟩ | ⟨-, rfl⟩
  all_goals simp [completeMeasurement, onTimeout]

/-- Only the decoder's handlers and RST write the decoded cells (rule R58). -/
theorem exec_keeps_decoded {i : Instr} {s t : State} (h : exec i s = .next t) (he : i ≠ .edge) (ht : i ≠ .tmo)
    (hr : i ≠ .rst) : t.decodedValue = s.decodedValue ∧ t.measuring = s.measuring ∧ t.fault = s.fault := by
  have hcases := exec_next_cases h
  simp only [he, ht, hr, false_and, false_or] at hcases
  rcases hcases with
    ⟨-, -, rfl⟩ | ⟨-, -, rfl⟩ | ⟨-, -, rfl⟩ | ⟨-, -, d, -, rfl⟩ | ⟨-, rfl⟩ | ⟨-, rfl⟩ | ⟨-, rfl⟩
  all_goals simp

/-- Only EDGE, PCOMMIT and RST write the tick counters (rule R58). -/
theorem exec_keeps_ticks {i : Instr} {s t : State} (h : exec i s = .next t) (he : i ≠ .edge) (hc : i ≠ .pcommit)
    (hr : i ≠ .rst) : t.pulseTick = s.pulseTick ∧ t.flashTick = s.flashTick := by
  have hcases := exec_next_cases h
  simp only [he, hc, hr, false_and, false_or] at hcases
  rcases hcases with
    ⟨-, -, rfl⟩ | ⟨-, -, rfl⟩ | ⟨-, -, rfl⟩ | ⟨-, -, rfl⟩ | ⟨-, rfl⟩ | ⟨-, rfl⟩ | ⟨-, rfl⟩
  all_goals simp [onTimeout]

/-- Only the main loop and RST write PollPhase (rule R30). -/
theorem exec_keeps_pollPhase {i : Instr} {s t : State} (h : exec i s = .next t) (hp : i ≠ .psnap) (hc : i ≠ .pcommit)
    (hr : i ≠ .rst) : t.pollPhase = s.pollPhase := by
  have hcases := exec_next_cases h
  simp only [hp, hc, hr, false_and, false_or] at hcases
  rcases hcases with
    ⟨-, -, rfl⟩ | ⟨-, -, p, f, -, -, rfl⟩ | ⟨-, -, rfl⟩ | ⟨-, -, rfl⟩ | ⟨-, -, rfl⟩ | ⟨-, rfl⟩ | ⟨-, rfl⟩ | ⟨-, rfl⟩
  all_goals simp [completeMeasurement, onTimeout]

/-- Only PSNAP and RST write the snapshot registers (rule R31). -/
theorem exec_keeps_snap {i : Instr} {s t : State} (h : exec i s = .next t) (hp : i ≠ .psnap) (hr : i ≠ .rst) :
    t.snap = s.snap := by
  have hcases := exec_next_cases h
  simp only [hp, hr, false_and, false_or] at hcases
  rcases hcases with
    ⟨-, -, rfl⟩ | ⟨-, -, p, f, -, -, rfl⟩ | ⟨-, -, rfl⟩ | ⟨-, -, rfl⟩ | ⟨-, -, rfl⟩ | ⟨-, -, d, -, rfl⟩ | ⟨-, rfl⟩ |
    ⟨-, rfl⟩ | ⟨-, rfl⟩
  all_goals simp [completeMeasurement, onTimeout]

/-- The main loop writes no timer cell (rule R58). -/
theorem exec_mainLoop_keeps_timer {i : Instr} {s t : State} (h : exec i s = .next t) (hi : i = .psnap ∨ i = .pcommit) :
    t.timerCount = s.timerCount ∧ t.timerRunning = s.timerRunning ∧ t.ovfPending = s.ovfPending := by
  obtain rfl | rfl := hi
  · obtain ⟨-, rfl⟩ := execPsnap_next_iff.mp h
    simp
  · obtain ⟨-, d, -, rfl⟩ := execPcommit_next_iff.mp h
    simp

/-! ## The tick counters -/

/-- A counter that advances modulo a period its width can hold does so as a number (rule R111). -/
theorem advance_toNat {w n : Nat} {t u : BitVec w} (hn : n ≤ 2 ^ w) (h : advance n t = .ok u) :
    u.toNat = (t.toNat + 1) % n := by
  obtain ⟨ht, rfl⟩ := advance_ok_iff.mp h
  have hlt : (t.toNat + 1) % n < n := Nat.mod_lt _ (by omega)
  rw [BitVec.toNat_ofNat, Nat.mod_eq_of_lt (by omega)]

/-- Generate asks for no clear, or, in an evaluated iteration, for exactly one (rules R127, R128). -/
theorem generate_clears_cases {n : Snapshot} {p : ModeCode} {d : Decision} (h : generate n p = .ok d) :
    (d.clrF = false ∧ d.clrP = false) ∨ (n.measuring = false ∧ d.clrF = !d.clrP) := by
  obtain ⟨-, ⟨-, rfl⟩ | ⟨hm, hd⟩⟩ := generate_ok_cases h
  · exact .inl ⟨rfl, rfl⟩
  · obtain ⟨-, rfl⟩ | ⟨-, -, -, hF, hP⟩ := dispatchMode_ok_cases hd
    · exact .inl ⟨rfl, rfl⟩
    · have hnot : ¬(d.clrF = true ∧ d.clrP = true) := fun ⟨h1, h2⟩ => by
        have := (hF.mp h1).1.symm.trans (hP.mp h2).1
        cases this
      cases hcF : d.clrF <;> cases hcP : d.clrP <;> simp_all

/-! ## Enabled steps -/

/-- The only refusals of an event are those of a TMO, a PSNAP and a PCOMMIT that are not enabled (rule R73). -/
theorem exec_refused_cases {i : Instr} {s : State} {r : Refusal} (h : exec i s = .refused r) :
    enabled s i = false ∧ r = .notEnabled i.mnemonic ∧ (i = .tmo ∨ i = .psnap ∨ i = .pcommit) := by
  cases i <;> simp only [exec] at h
  case edge => unfold execEdge at h; split at h <;> cases h
  case tclk => unfold execTclk at h; split at h <;> cases h
  case tmo => unfold execTmo at h; split at h <;> cases h; simp_all [Instr.mnemonic]
  case psnap => unfold execPsnap at h; split at h <;> cases h; simp_all [Instr.mnemonic]
  case pcommit =>
    unfold execPcommit at h
    split at h
    · split at h <;> cases h
    · cases h
      simp_all [Instr.mnemonic]
  all_goals cases h

/-- With no word chosen beforehand the step is an enabled event, taken in a state that differs only in the count of free
choices (rule R56). -/
theorem step_free {s : State} (h : s.trace = []) :
    ∃ i, enabled s i = true ∧ step s = exec i { s with choices := s.choices + 1 } :=
  ⟨pickEnabled (Config.freeChoice s.choices) s, pickEnabled_enabled _ s, by simp [step, fetch, h]⟩

/-! ## The obligations -/

/-- Settles O8, by induction on the events: what a step leaves on the trace does not show in its event's outcome, and an event
leaves the trace to the steps after it. -/
theorem traceRunTakesItsEventsInOrder : Obligations.TraceRunTakesItsEventsInOrder := by
  intro is
  induction is with
  | nil =>
    intro s rest _ ht
    simp only [List.map_nil, List.nil_append] at ht
    subst ht
    rfl
  | cons i is ih =>
    intro s rest hwf ht
    obtain ⟨hi, his⟩ := List.forall_mem_cons.mp hwf
    have hstep : step s = exec i { s with trace := is.map encode ++ rest } := step_encode hi ht
    have hrest := exec_withTrace i { s with trace := is.map encode ++ rest } rest
    simp only [List.length_cons, Host.Core.run, runEvents, Host.Check.core_step, hstep, hrest]
    cases he : exec i { s with trace := is.map encode ++ rest } with
    | next t => exact ih t rest his (exec_keeps_environment he).1
    | fault f => rfl
    | refused r => rfl

/-- Settles O6: a free choice falls on an enabled step, and an enabled step is not refused. -/
theorem freeStepsAreEnabledSteps : Obligations.FreeStepsAreEnabledSteps := by
  intro s h
  obtain ⟨i, hi, hs⟩ := step_free h
  refine ⟨⟨i, wellFormed_of_enabled hi, ?_, ?_, ?_, hs⟩, fun r hr => ?_⟩
  · rintro rfl
    exact hi
  · rintro rfl
    exact of_decide_eq_true hi
  · rintro rfl
    exact of_decide_eq_true hi
  · obtain ⟨hn, -, -⟩ := exec_refused_cases (hs ▸ hr)
    cases hi.symm.trans hn

/-- Settles O51: an EDGE clears Fault, and writes DecodedValue only where it completes a measurement. -/
theorem onlyHandlersWriteTheDecodedCells : Obligations.OnlyHandlersWriteTheDecodedCells := by
  intro i s t h hr ht
  by_cases he : i = .edge
  · subst he
    obtain ⟨hm, rfl⟩ | ⟨-, p, f, -, -, rfl⟩ := onEdge_ok_cases (execEdge_next_iff.mp h)
    · simp [hm]
    · simp
  · obtain ⟨hd, hm, hf⟩ := exec_keeps_decoded h he ht hr
    exact ⟨fun h1 => ⟨hf ▸ h1, he⟩, fun _ => hd, fun _ => ⟨hd, hm, hf⟩⟩

/-- Settles O52: a start EDGE advances both counters, a PCOMMIT clears at most one, and nothing else writes them. -/
theorem tickCountersAdvanceOrClear : Obligations.TickCountersAdvanceOrClear := by
  intro i s t h hr
  by_cases he : i = .edge
  · subst he
    obtain ⟨-, rfl⟩ | ⟨hm, p, f, hp, hf, rfl⟩ := onEdge_ok_cases (execEdge_next_iff.mp h)
    · exact .inl ⟨rfl, rfl⟩
    · exact .inr (.inl ⟨rfl, hm, advance_toNat (by decide) hp, advance_toNat (by decide) hf⟩)
  by_cases hc : i = .pcommit
  · subst hc
    obtain ⟨-, d, hd, rfl⟩ := execPcommit_next_iff.mp h
    obtain ⟨hF, hP⟩ | ⟨hm, hFP⟩ := generate_clears_cases hd
    · exact .inl (by simp [hF, hP])
    · exact .inr (.inr ⟨rfl, hm, by cases hP : d.clrP <;> simp [hFP, hP]⟩)
  · exact .inl (exec_keeps_ticks h he hc hr)

/-- Settles O53, from what each event leaves unchanged. -/
theorem agentsWriteOnlyTheirOwnCells : Obligations.AgentsWriteOnlyTheirOwnCells := by
  intro i s t h
  obtain ⟨htrace, hchoices⟩ := exec_keeps_environment h
  refine ⟨htrace, hchoices, exec_mainLoop_keeps_timer h, fun hp hc hr => ?_, exec_keeps_snap h, ?_⟩
  · obtain ⟨hmode, hlight, hind⟩ := exec_keeps_mode_outputs h hc hr
    exact ⟨hmode, exec_keeps_pollPhase h hp hc hr, exec_keeps_snap h hp hr, hlight, hind⟩
  · rintro rfl
    exact exec_keeps_mode_outputs h (by decide) (by decide)

/-- Settles O5: the event interface hands on the decoded event. -/
theorem stepRunsTheDecodedEvent : Obligations.StepRunsTheDecodedEvent := by
  intro s w rest i ht hd
  simp [step, fetch, ht, hd]

end Sys2Proof.Machine
end

section
/-! PROOFS. The encoding family: words and instructions answer to each other (rules R70-R72), an assembled trace decodes to its
lines' steps (rules R79-R81), and a step is stuck exactly when it is not enabled (rule R73). -/

namespace Sys2Proof.Machine

/-! ## The fields of a word -/

/-- The field `op` is the word's upper half (rule R70). -/
theorem opField_toNat (w : EventWord) : (opField w).toNat = w.toNat / 16 := by
  rw [opField, BitVec.extractLsb'_toNat, Nat.shiftRight_eq_div_pow]
  omega

/-- The field `rsv` is the word's lower half (rule R70). -/
theorem rsvField_toNat (w : EventWord) : (rsvField w).toNat = w.toNat % 16 := by
  rw [rsvField, BitVec.extractLsb'_toNat, Nat.shiftRight_zero]

/-- The reserved field is clear in the multiples of 16. -/
theorem rsvField_eq_zero_iff {w : EventWord} : rsvField w = 0#4 ↔ w.toNat % 16 = 0 := by
  rw [← rsvField_toNat, ← BitVec.toNat_inj, BitVec.toNat_ofNat]

/-- The two fields make up the word (rule R70). -/
theorem word_ext {v w : EventWord} (hop : opField v = opField w) (hrsv : rsvField v = rsvField w) : v = w := by
  apply BitVec.eq_of_toNat_eq
  have hdiv : v.toNat / 16 = w.toNat / 16 := by rw [← opField_toNat, hop, opField_toNat]
  have hmod : v.toNat % 16 = w.toNat % 16 := by rw [← rsvField_toNat, hrsv, rsvField_toNat]
  omega

/-! ## Decoding is the inverse of encoding -/

/-- Every instruction's word has the fields and the verdict the table gives it: the laws per instruction, together. -/
theorem eventWord_statement (i : Instr) : Laws.EventWord.Statement i := by
  cases i with
  | edge => exact Laws.EventWord.edge
  | tclk => exact Laws.EventWord.tclk
  | tmo => exact Laws.EventWord.tmo
  | psnap => exact Laws.EventWord.psnap
  | pcommit => exact Laws.EventWord.pcommit
  | rst => exact Laws.EventWord.rst
  | tStart => exact Laws.EventWord.tStart
  | tStoprd => exact Laws.EventWord.tStoprd
  | tClr => exact Laws.EventWord.tClr

theorem decode_encode (i : Instr) : decode (encode i) = if i.wellFormed then .step i else .internal i :=
  (eventWord_statement i).2.2

/-- A word is an instruction's word when it is `{op, 0000}` with that instruction's code (rules R70, R71). -/
theorem eq_encode_of_fields {w : EventWord} {i : Instr} (hrsv : rsvField w = 0#4) (hop : opField w = opcodeOf i) :
    w = encode i := by
  obtain ⟨hr, ho, -⟩ := eventWord_statement i
  exact word_ext (hop.trans ho.symm) (hrsv.trans hr.symm)

/-- The table of rule R71, read from code to instruction. -/
theorem opcodeOf_of_instrOfOp {op : BitVec 4} {i : Instr} (h : instrOfOp op = some i) : op = opcodeOf i := by
  revert op
  cases i <;> decide

/-- A word with a reserved bit set, or with a reserved code, is invalid (rule R72). -/
theorem decode_eq_invalid {w : EventWord} (h : rsvField w ≠ 0#4 ∨ instrOfOp (opField w) = none) :
    decode w = .invalid w := by
  by_cases hrsv : rsvField w = 0#4
  · simp [decode, hrsv, h.resolve_left (not_not_intro hrsv)]
  · simp [decode, hrsv]

/-- A word is some instruction's word, or invalid (rule R72). -/
theorem decode_cases (w : EventWord) : (∃ i, w = encode i) ∨ decode w = .invalid w := by
  by_cases hrsv : rsvField w = 0#4
  · cases hop : instrOfOp (opField w) with
    | none => exact .inr (decode_eq_invalid (.inr hop))
    | some i => exact .inl ⟨i, eq_encode_of_fields hrsv (opcodeOf_of_instrOfOp hop)⟩
  · exact .inr (decode_eq_invalid (.inl hrsv))

/-- A word whose verdict names an instruction is that instruction's word (rules R70, R72). -/
theorem eq_encode_of_instr? {w : EventWord} {i : Instr} (h : (decode w).instr? = some i) : w = encode i := by
  obtain ⟨j, rfl⟩ | hinv := decode_cases w
  · rw [decode_encode] at h
    split at h <;> cases h <;> rfl
  · rw [hinv] at h
    cases h

theorem decode_eq_step_iff {w : EventWord} {i : Instr} :
    decode w = .step i ↔ i.wellFormed = true ∧ w = encode i := by
  constructor
  · intro h
    exact ⟨wellFormed_of_decode_step h, eq_encode_of_instr? (congrArg Verdict.instr? h)⟩
  · rintro ⟨hi, rfl⟩
    rw [decode_encode, if_pos hi]

theorem decode_eq_internal_iff {w : EventWord} {i : Instr} :
    decode w = .internal i ↔ i.wellFormed = false ∧ w = encode i := by
  constructor
  · intro h
    obtain rfl := eq_encode_of_instr? (congrArg Verdict.instr? h)
    cases hi : i.wellFormed with
    | false => exact ⟨rfl, rfl⟩
    | true => cases h.symm.trans (decode_eq_step_iff.mpr ⟨hi, rfl⟩)
  · rintro ⟨hi, rfl⟩
    simp [decode_encode, hi]

/-! ## The verdict of every byte -/

/-- Which codes are taken: 1..6 by the agents' steps, 8..10 by the internal micro-operations, no other (rule R71). -/
theorem wellFormed_instrOfOp (op : BitVec 4) :
    (instrOfOp op).map Instr.wellFormed =
      if 1 ≤ op.toNat ∧ op.toNat ≤ 6 then some true
      else if 8 ≤ op.toNat ∧ op.toNat ≤ 10 then some false
      else none := by
  revert op
  decide

/-- A word with no reserved bit set is an instruction's word when its code is taken (rules R70, R71). -/
theorem exists_eq_encode {w : EventWord} {b : Bool} (hrsv : rsvField w = 0#4)
    (h : (instrOfOp (opField w)).map Instr.wellFormed = some b) : ∃ i : Instr, i.wellFormed = b ∧ w = encode i := by
  obtain ⟨i, hop, hi⟩ := Option.map_eq_some_iff.mp h
  exact ⟨i, hi, eq_encode_of_fields hrsv (opcodeOf_of_instrOfOp hop)⟩

/-- The event interface refuses the word of an internal micro-operation by name (rule R72). -/
theorem step_internal {w : EventWord} {i : Instr} {s : State} {rest : List EventWord} (ht : s.trace = w :: rest)
    (hd : decode w = .internal i) : step s = .refused (.internalWord i.mnemonic) := by
  simp [step, fetch, ht, hd]

/-- The event interface refuses a reserved word (rule R72). -/
theorem step_invalid {v w : EventWord} {s : State} {rest : List EventWord} (ht : s.trace = w :: rest)
    (hd : decode w = .invalid v) : step s = .refused (.invalidWord v) := by
  simp [step, fetch, ht, hd]

/-! ## Assembled traces -/

/-- The words of steps decode to the steps, one byte a step (rules R72, R81). -/
theorem decodeTrace_map_encode {is : List Instr} (h : ∀ i ∈ is, i.wellFormed = true) :
    decodeTrace (is.map encode) = .ok is := by
  induction is with
  | nil => rfl
  | cons i is ih =>
    obtain ⟨hi, his⟩ := List.forall_mem_cons.mp h
    have hd : decode (encode i) = .step i := decode_eq_step_iff.mpr ⟨hi, rfl⟩
    simp [decodeTrace, hd, ih his]

/-- The line is no internal mnemonic; pseudo-instructions never are (rule R79). -/
def TraceLine.noInternal (l : TraceLine) : Prop := ∀ i, l = .event i → i.wellFormed = true

theorem forall_noInternal_iff {ls : List TraceLine} :
    (∀ l ∈ ls, l.noInternal) ↔ ∀ i, TraceLine.event i ∈ ls → i.wellFormed = true :=
  ⟨fun h i hi => h _ hi i rfl, fun h _ hl i hi => h i (hi ▸ hl)⟩

/-- The pseudo-instructions stand for steps of the agents only (rule R80). -/
theorem TraceLine.noInternal.wellFormed_of_mem {l : TraceLine} (hl : l.noInternal) {i : Instr} (hi : i ∈ l.events) :
    i.wellFormed = true := by
  cases l <;> simp only [TraceLine.events, List.cons_append, List.mem_append, List.mem_cons, List.mem_replicate,
    List.not_mem_nil, or_false] at hi
  case event j =>
    subst hi
    exact hl i rfl
  case tclkTimes n =>
    obtain ⟨-, rfl⟩ := hi
    rfl
  case poll => obtain rfl | rfl := hi <;> rfl
  case pulse n => obtain rfl | ⟨-, rfl⟩ | rfl := hi <;> rfl
  case timeout => obtain ⟨-, rfl⟩ | rfl := hi <;> rfl

/-- A line assembles exactly when it names no internal micro-operation, and then to the words of its steps (rules R79, R80). -/
theorem assembleLine_ok_iff {l : TraceLine} {ws : List EventWord} :
    assembleLine l = .ok ws ↔ l.noInternal ∧ ws = l.events.map encode := by
  cases l with
  | event i => cases hi : i.wellFormed <;> simp [assembleLine, TraceLine.noInternal, TraceLine.events, hi, @eq_comm _ ws]
  | empty | tclkTimes n | poll | pulse n | timeout =>
    simp only [assembleLine, TraceLine.noInternal, Except.ok.injEq, reduceCtorEq, false_implies, implies_true, true_and]
    exact eq_comm

/-- Assembling goes line by line, in order (rule R79). -/
theorem assemble_cons_ok_iff {l : TraceLine} {ls : List TraceLine} {ws : List EventWord} :
    assemble (l :: ls) = .ok ws ↔ ∃ us vs, assembleLine l = .ok us ∧ assemble ls = .ok vs ∧ ws = us ++ vs := by
  cases hl : assembleLine l with
  | error e => simp [assemble, hl]
  | ok us => cases hls : assemble ls <;> simp [assemble, hl, hls, @eq_comm _ ws]

/-- A trace assembles exactly when each of its lines does, and then to the words of its steps in order (rule R79). -/
theorem assemble_ok_iff {ls : List TraceLine} {ws : List EventWord} :
    assemble ls = .ok ws ↔ (∀ l ∈ ls, l.noInternal) ∧ ws = (ls.flatMap TraceLine.events).map encode := by
  induction ls generalizing ws with
  | nil => simp [assemble, eq_comm]
  | cons l ls ih =>
    simp only [assemble_cons_ok_iff, assembleLine_ok_iff, ih, List.forall_mem_cons, List.flatMap_cons, List.map_append]
    constructor
    · rintro ⟨_, _, ⟨hl, rfl⟩, ⟨hls, rfl⟩, rfl⟩
      exact ⟨⟨hl, hls⟩, rfl⟩
    · rintro ⟨⟨hl, hls⟩, rfl⟩
      exact ⟨_, _, ⟨hl, rfl⟩, ⟨hls, rfl⟩, rfl⟩

/-! ## Enabling -/

/-- An agent's step is refused exactly when it is not enabled (rule R73). -/
theorem exec_notEnabled_iff {i : Instr} (hi : i.wellFormed = true) {s : State} :
    exec i s = .refused (.notEnabled i.mnemonic) ↔ enabled s i = false := by
  refine ⟨fun h => (exec_refused_cases h).1, fun h => ?_⟩
  cases i with
  | tmo => simp [exec, execTmo, h, Instr.mnemonic]
  | psnap => simp [exec, execPsnap, h, Instr.mnemonic]
  | pcommit => simp [exec, execPcommit, h, Instr.mnemonic]
  | edge | tclk | rst => cases h
  | tStart | tStoprd | tClr => cases hi

/-! ## The obligations -/

/-- Settles O4: a trace assembles to the words of its lines' steps, and those words decode to the steps. -/
theorem assembledTracesDecodeToTheirEvents : Obligations.AssembledTracesDecodeToTheirEvents := by
  intro ls
  refine ⟨fun ws h => ?_, ?_⟩
  · obtain ⟨hno, rfl⟩ := assemble_ok_iff.mp h
    have hwf : ∀ i ∈ ls.flatMap TraceLine.events, i.wellFormed = true := by
      intro i hi
      obtain ⟨l, hl, hil⟩ := List.mem_flatMap.mp hi
      exact (hno l hl).wellFormed_of_mem hil
    exact ⟨decodeTrace_map_encode hwf, List.length_map encode⟩
  · simp only [assemble_ok_iff, exists_and_left, exists_eq, and_true, forall_noInternal_iff]

/-- Settles O2, in both verdicts. -/
theorem decodeInvertsEncode : Obligations.DecodeInvertsEncode :=
  fun _ _ => ⟨decode_eq_step_iff, decode_eq_internal_iff⟩

/-- Settles O3: the word's fields choose the verdict, and the verdict what the event interface does. -/
theorem everyByteHasOneOfThreeVerdicts : Obligations.EveryByteHasOneOfThreeVerdicts := by
  intro w s rest ht
  have hcode := wellFormed_instrOfOp (opField w)
  simp only [← rsvField_eq_zero_iff, ← opField_toNat]
  split_ifs with hstep hint
  · obtain ⟨hrsv, hop⟩ := hstep
    obtain ⟨i, hi⟩ := exists_eq_encode hrsv (hcode.trans (if_pos hop))
    have hd := decode_eq_step_iff.mpr hi
    exact ⟨i, hi.1, hd, stepRunsTheDecodedEvent s w rest i ht hd⟩
  · obtain ⟨hrsv, hop⟩ := hint
    rw [if_neg fun h => hstep ⟨hrsv, h⟩, if_pos hop] at hcode
    obtain ⟨i, hi⟩ := exists_eq_encode hrsv hcode
    have hd := decode_eq_internal_iff.mpr hi
    exact ⟨i, hi.1, hd, step_internal ht hd⟩
  · have hd : decode w = .invalid w := by
      by_cases hrsv : rsvField w = 0#4
      · rw [if_neg fun h => hstep ⟨hrsv, h⟩, if_neg fun h => hint ⟨hrsv, h⟩] at hcode
        exact decode_eq_invalid (.inr (Option.map_eq_none_iff.mp hcode))
      · exact decode_eq_invalid (.inl hrsv)
    exact ⟨hd, step_invalid ht hd⟩

/-- Settles O7: an agent's step is refused exactly when it is not enabled, and only three steps can be disabled. -/
theorem stepsAreStuckExactlyWhenNotEnabled : Obligations.StepsAreStuckExactlyWhenNotEnabled := by
  intro s
  refine ⟨exec_notEnabled_iff (i := .tmo) rfl, (exec_notEnabled_iff (i := .psnap) rfl).trans ?_,
    (exec_notEnabled_iff (i := .pcommit) rfl).trans ?_, fun i r h => (exec_refused_cases h).2.2⟩
  all_goals cases hp : s.pollPhase <;> simp [enabled, hp]

/-- Settles O1: the nine words are the encoder's, and the four others are reserved. -/
theorem tableWordsDecodeToTheirInstructions : Obligations.TableWordsDecodeToTheirInstructions := by
  refine ⟨decode_encode .edge, decode_encode .tclk, decode_encode .tmo, decode_encode .psnap, decode_encode .pcommit,
    decode_encode .rst, decode_encode .tStart, decode_encode .tStoprd, decode_encode .tClr, ?_, ?_, ?_, ?_⟩
  all_goals
    apply decode_eq_invalid
    decide

end Sys2Proof.Machine
end

section
/-! PROOFS. The timer family: what TCLK and the three micro-operations do (rules R101-R104), where an overflow comes from
(rule R105), and the running timer's count over any run of TCLK, PSNAP and PCOMMIT (rule R106). -/

namespace Sys2Proof.Machine

/-! ## One count -/

/-- TCLK always completes: it counts a running timer and leaves a stopped one alone (rule R104). -/
theorem exec_tclk (s : State) : exec .tclk s = .next (if s.timerRunning then countOnce s else s) := by
  simp only [exec, execTclk]
  split <;> rfl

/-- The count that wraps is 255 (rules R6, R104). -/
theorem eq_timerMax_iff {c : Count} : c = timerMax ↔ c.toNat = 255 :=
  (BitVec.toNat_inj (y := timerMax)).symm

section Count
variable (s : State)

/-- One count, in numbers: 255 wraps to 0 with the overflow latched, any other count goes up by one (rule R104). -/
theorem countOnce_eq :
    countOnce s = if s.timerCount.toNat = 255 then { s with timerCount := 0, ovfPending := true }
      else { s with timerCount := BitVec.ofNat 8 (s.timerCount.toNat + 1) } := by
  obtain ⟨hc, h⟩ | ⟨hc, h⟩ := countOnce_cases s
  · rw [h, if_pos (eq_timerMax_iff.mp hc)]
    rfl
  · have hsucc : BitVec.ofNat 8 (s.timerCount.toNat + 1) = s.timerCount + 1 := by simp [BitVec.ofNat_add]
    rw [h, if_neg (mt eq_timerMax_iff.mpr hc), hsucc]
    rfl

@[simp] theorem countOnce_timerRunning : (countOnce s).timerRunning = s.timerRunning := by
  obtain ⟨c, o, h⟩ := countOnce_eq_update s
  rw [h]

/-- The wrap from 255 to 0 is the count's own addition (rule R104). -/
@[simp] theorem countOnce_timerCount : (countOnce s).timerCount = s.timerCount + 1 := by
  obtain ⟨hc, h⟩ | ⟨-, h⟩ := countOnce_cases s <;> rw [h]
  · rw [hc]
    rfl
  · rfl

/-- A count latches the overflow at 255 and cancels none (rules R28, R105). -/
@[simp] theorem countOnce_ovfPending :
    (countOnce s).ovfPending = (s.ovfPending || decide (s.timerCount.toNat = 255)) := by
  rw [countOnce_eq]
  split <;> simp [*]

end Count

/-! ## Where an overflow comes from -/

/-- No event but TCLK latches an overflow (rules R28, R105). -/
theorem exec_ovfPending_of_ne_tclk {i : Instr} {s t : State} (h : exec i s = .next t) (hi : i ≠ .tclk)
    (ht : t.ovfPending = true) : s.ovfPending = true := by
  have hcases := exec_next_cases h
  simp only [hi, false_and, false_or] at hcases
  rcases hcases with
    ⟨-, -, rfl⟩ | ⟨-, -, p, f, -, -, rfl⟩ | ⟨-, -, rfl⟩ | ⟨-, -, rfl⟩ | ⟨-, -, d, -, rfl⟩ | ⟨-, rfl⟩ | ⟨-, rfl⟩ |
    ⟨-, rfl⟩ | ⟨-, rfl⟩
  all_goals simp_all [completeMeasurement, onTimeout]

/-! ## Counting over a run -/

/-- From `s` to `t` the timer has counted `n` TCLKs: it runs, its count is the sum modulo 256, and an overflow is latched if one
was or if the sum reached 256 (rules R28, R106). -/
structure TimerCounted (n : Nat) (s t : State) : Prop where
  running : t.timerRunning = true
  count : t.timerCount.toNat = (s.timerCount.toNat + n) % 256
  overflow : t.ovfPending = (s.ovfPending || decide (256 ≤ s.timerCount.toNat + n))

/-- Steps that leave the timer cells alone count nothing. -/
theorem TimerCounted.of_timer_eq {s t : State} (hs : s.timerRunning = true) (hc : t.timerCount = s.timerCount)
    (hr : t.timerRunning = s.timerRunning) (ho : t.ovfPending = s.ovfPending) : TimerCounted 0 s t := by
  have hlt : s.timerCount.toNat < 256 := s.timerCount.isLt
  exact ⟨hr.trans hs, by rw [hc]; omega, by simp [ho, hlt]⟩

/-- One count of a running timer counts one TCLK. -/
theorem timerCounted_countOnce {s : State} (hs : s.timerRunning = true) : TimerCounted 1 s (countOnce s) where
  running := by simp [hs]
  count := by simp [BitVec.toNat_add]
  overflow := by
    have hlt : s.timerCount.toNat < 256 := s.timerCount.isLt
    have hwrap : s.timerCount.toNat = 255 ↔ 256 ≤ s.timerCount.toNat + 1 := by omega
    simp only [countOnce_ovfPending, hwrap]

/-- Counts add up: the second stretch wraps only if the whole reaches 256 and the first did not. -/
theorem TimerCounted.trans {m n : Nat} {s u t : State} (h₁ : TimerCounted m s u) (h₂ : TimerCounted n u t) :
    TimerCounted (m + n) s t where
  running := h₂.running
  count := by
    rw [h₂.count, h₁.count]
    omega
  overflow := by
    have hsum : 256 ≤ s.timerCount.toNat + (m + n) ↔
        256 ≤ s.timerCount.toNat + m ∨ 256 ≤ (s.timerCount.toNat + m) % 256 + n := by omega
    simp only [h₂.overflow, h₁.overflow, h₁.count, hsum, Bool.or_assoc, Bool.decide_or]

/-- The quiet events are the timer clock's and the main loop's. -/
theorem quiet_iff {i : Instr} : quiet i = true ↔ i = .tclk ∨ i = .psnap ∨ i = .pcommit := by
  simp [quiet, or_assoc]

/-- A quiet event counts a running timer exactly if it is TCLK. -/
theorem exec_quiet_timerCounted {i : Instr} {s t : State} (hi : quiet i = true) (hs : s.timerRunning = true)
    (h : exec i s = .next t) : TimerCounted ([i].count .tclk) s t := by
  obtain rfl | hmain := quiet_iff.mp hi
  · rw [exec_tclk, if_pos hs] at h
    cases h
    exact timerCounted_countOnce hs
  · obtain ⟨hc, hr, ho⟩ := exec_mainLoop_keeps_timer h hmain
    have hcount : [i].count .tclk = 0 := by obtain rfl | rfl := hmain <;> rfl
    rw [hcount]
    exact .of_timer_eq hs hc hr ho

/-- A run of quiet events counts a running timer as often as it holds a TCLK (rule R106). -/
theorem runEvents_quiet_timerCounted {is : List Instr} {s t : State} (hq : ∀ i ∈ is, quiet i = true)
    (hs : s.timerRunning = true) (h : runEvents is s = .next t) : TimerCounted (is.count .tclk) s t := by
  induction is generalizing s with
  | nil =>
    cases h
    exact .of_timer_eq hs rfl rfl rfl
  | cons i is ih =>
    obtain ⟨u, hu, ht⟩ := runEvents_cons.mp h
    obtain ⟨hi, his⟩ := List.forall_mem_cons.mp hq
    have hhead := exec_quiet_timerCounted hi hs hu
    have hsplit : (i :: is).count .tclk = [i].count .tclk + is.count .tclk := List.count_append (l₁ := [i])
    rw [hsplit]
    exact hhead.trans (ih his hhead.running ht)

/-! ## The obligations -/

/-- Settles O14: by induction on the run, the counts of its events add up. -/
theorem timerCountIsTheNumberOfTclks : Obligations.TimerCountIsTheNumberOfTclks := by
  intro is s t hq hs h
  obtain ⟨hr, hc, ho⟩ := runEvents_quiet_timerCounted hq hs h
  exact ⟨hr, hc, ho⟩

/-- Settles O13: only TCLK latches an overflow, and only by counting at 255. -/
theorem overflowComesOnlyFromAWrappingTclk : Obligations.OverflowComesOnlyFromAWrappingTclk := by
  intro i s t h hs ht
  have hi : i = .tclk := by
    by_contra hne
    rw [exec_ovfPending_of_ne_tclk h hne ht] at hs
    cases hs
  subst hi
  obtain ⟨-, rfl⟩ | ⟨hr, rfl⟩ := execTclk_next_cases h
  · rw [ht] at hs
    cases hs
  · exact ⟨rfl, hr, by simpa [hs] using ht⟩

/-- Settles O9: T.START writes that one cell. -/
theorem timerStartSetsRunning : Obligations.TimerStartSetsRunning :=
  fun _ => rfl

/-- Settles O10: the result is the count, and T.STOPRD writes TimerRunning alone. -/
theorem timerStopReadsTheCount : Obligations.TimerStopReadsTheCount :=
  fun _ => ⟨rfl, rfl⟩

/-- Settles O11, for either value of the parameter. -/
theorem timerClearZeroesTheCount : Obligations.TimerClearZeroesTheCount := by
  refine ⟨fun s => ⟨by simp [timerClear], by simp [timerClear]⟩, fun s => ?_⟩
  cases hcfg : Config.ovfClrOnReset <;> simp [exec, execTClr, timerClear, hcfg]

/-- Settles O12: TCLK is one count of a running timer, at 255 with the wrap. -/
theorem tclkCountsTheRunningTimer : Obligations.TclkCountsTheRunningTimer := by
  intro s
  rw [exec_tclk, countOnce_eq]

end Sys2Proof.Machine
end

section
/-! PROOFS. The decoder family: both handlers as equations (rules R110-R112), the cells a quiet run leaves alone, and what follows
for pulses (rules R115, R132) and timeouts (rules R114, R116). -/

namespace Sys2Proof.Machine

/-! ## The counters' advance -/

/-- A legal counter answers its successor modulo the period (rule R111). -/
theorem advance_of_lt {w n : Nat} {t : BitVec w} (h : t.toNat < n) :
    advance n t = .ok (BitVec.ofNat w ((t.toNat + 1) % n)) :=
  advance_ok_iff.mpr ⟨h, rfl⟩

/-- An illegal counter faults (rule R111). -/
theorem advance_of_le {w n : Nat} {t : BitVec w} (h : n ≤ t.toNat) : advance n t = .error .counter :=
  advance_error_iff.mpr ⟨h, rfl⟩

/-- The advance in both its branches, by the last legal value `n` (rule R111). -/
theorem advance_eq {w : Nat} (n : Nat) (t : BitVec w) :
    advance (n + 1) t =
      if t.toNat ≤ n then .ok (BitVec.ofNat w ((t.toNat + 1) % (n + 1))) else .error .counter := by
  split
  · exact advance_of_lt (by omega)
  · exact advance_of_le (by omega)

/-- A legal counter goes up by one, and its last value wraps to 0 (rule R111). -/
theorem advance_eq_wrap {w n : Nat} {t : BitVec w} (h : t.toNat ≤ n) :
    advance (n + 1) t = .ok (if t.toNat = n then 0 else t + 1) := by
  rw [advance_of_lt (Nat.lt_succ_of_le h)]
  split
  · next hn => simp [hn]
  · next hn =>
    rw [Nat.mod_eq_of_lt (by omega)]
    simp [BitVec.ofNat_add]

/-! ## The handlers -/

/-- An EDGE while a measurement runs completes it (rule R110). -/
theorem exec_edge_completes {s : State} (hm : s.measuring = true) :
    exec .edge s = .next (setFault false (completeMeasurement Config.ovfClrOnReset s)) :=
  execEdge_next_iff.mpr (by simp [onEdge, hm])

/-- An EDGE between measurements starts one when both counters advance (rule R110). -/
theorem exec_edge_starts {s : State} {p : PulseTick} {f : FlashTick} (hm : s.measuring = false)
    (hp : advance pulsePeriod s.pulseTick = .ok p) (hf : advance flashPeriod s.flashTick = .ok f) :
    exec .edge s = .next (setFault false (setTicks p f (setMeasuring true (timerStart s)))) :=
  execEdge_next_iff.mpr (by simp [onEdge, hm, startMeasurement_ok_iff.mpr ⟨p, f, hp, hf, rfl⟩])

/-- An EDGE between measurements at an illegal counter faults (rule R111). -/
theorem exec_edge_faults {s : State} (hm : s.measuring = false)
    (h : pulsePeriod ≤ s.pulseTick.toNat ∨ flashPeriod ≤ s.flashTick.toNat) :
    exec .edge s = .fault (.unreachable .counter) := by
  cases he : onEdge Config.ovfClrOnReset s with
  | error u =>
    obtain ⟨-, rfl, -⟩ := onEdge_error he
    simp [exec, execEdge, he]
  | ok t =>
    obtain ⟨hm', -⟩ | ⟨-, p, f, hp, hf, -⟩ := onEdge_ok_cases he
    · cases hm.symm.trans hm'
    · have hlt := (advance_ok_iff.mp hp).1
      have hlt' := (advance_ok_iff.mp hf).1
      omega

/-- An EDGE clears Fault in both branches (rule R110). -/
theorem exec_edge_fault {s t : State} (h : exec .edge s = .next t) : t.fault = false := by
  obtain ⟨-, rfl⟩ | ⟨-, p, f, -, -, rfl⟩ := onEdge_ok_cases (execEdge_next_iff.mp h) <;> rfl

/-- A TMO with an overflow latched runs its handler (rules R112, R113). -/
theorem exec_tmo_of_ovfPending {s : State} (h : s.ovfPending = true) :
    exec .tmo s = .next (onTimeout Config.ovfClrOnReset fallbackValue s) :=
  execTmo_next_iff.mpr ⟨h, rfl⟩

/-- A TMO with none latched is stuck (rule R73). -/
theorem exec_tmo_stuck {s : State} (h : s.ovfPending = false) : exec .tmo s = .refused (.notEnabled "TMO") :=
  (exec_notEnabled_iff (i := .tmo) rfl).mpr h

/-- The completion branch cancels the overflow as `OVF_CLR_ON_RESET` says (rules R103, R110). -/
theorem completeMeasurement_eq (b : Bool) (s : State) :
    completeMeasurement b s =
      { s with timerRunning := false, decodedValue := s.timerCount, timerCount := 0, ovfPending := s.ovfPending && !b,
               measuring := false } :=
  rfl

/-- The handler of TMO cancels the overflow whatever `OVF_CLR_ON_RESET` is (rule R112). -/
theorem onTimeout_eq (b : Bool) (v : Count) (s : State) :
    onTimeout b v s =
      { s with timerRunning := false, timerCount := 0, ovfPending := false, decodedValue := v, measuring := false,
               fault := true } :=
  rfl

/-- The fallback lies in On's range, whichever value it is (rule R112, decision D10). -/
theorem fallbackValue_toNat : fallbackValue.toNat = 91 + Config.fallbackIndex.val := by
  have hlt : Config.fallbackIndex.val < 14 := Config.fallbackIndex.isLt
  simp only [fallbackValue, onLow, BitVec.toNat_ofNat]
  omega

/-- On's range lies past Off's (rule R120). -/
theorem modeOf_eq_on {v : Count} (hlow : 90 < v.toNat) (hhigh : v.toNat < 105) : modeOf v = .on := by
  have hoff : ¬(75 < v.toNat ∧ v.toNat < 90) := by omega
  simp [modeOf, hoff, hlow, hhigh]

/-! ## Quiet runs -/

/-- What every event of a run keeps, the run keeps. -/
theorem runEvents_keeps {P : State → Prop} {is : List Instr}
    (hstep : ∀ i ∈ is, ∀ u v, P u → exec i u = .next v → P v) {s t : State} (hs : P s)
    (h : runEvents is s = .next t) : P t := by
  induction is generalizing s with
  | nil =>
    cases h
    exact hs
  | cons i is ih =>
    obtain ⟨u, hu, ht⟩ := runEvents_cons.mp h
    obtain ⟨hi, his⟩ := List.forall_mem_cons.mp hstep
    exact ih his (hi s u hs hu) ht

/-- The cells only the decoder's handlers and RST write (rule R58) hold the same in both states. -/
structure SameDecoded (s t : State) : Prop where
  decodedValue : t.decodedValue = s.decodedValue
  measuring : t.measuring = s.measuring
  fault : t.fault = s.fault

/-- The timer is stopped, with the count and the latch of `s`. -/
structure StoppedAs (s t : State) : Prop where
  stopped : t.timerRunning = false
  timerCount : t.timerCount = s.timerCount
  ovfPending : t.ovfPending = s.ovfPending

/-- A quiet run writes none of the decoded cells. -/
theorem runEvents_quiet_sameDecoded {is : List Instr} {s t : State} (hq : ∀ i ∈ is, quiet i = true)
    (h : runEvents is s = .next t) : SameDecoded s t := by
  refine runEvents_keeps (P := SameDecoded s) (fun i hi u v hu hv => ?_) ⟨rfl, rfl, rfl⟩ h
  have hne : i ≠ .edge ∧ i ≠ .tmo ∧ i ≠ .rst := by
    obtain rfl | rfl | rfl := quiet_iff.mp (hq i hi) <;> decide
  obtain ⟨hd, hm, hf⟩ := exec_keeps_decoded hv hne.1 hne.2.1 hne.2.2
  exact ⟨hd.trans hu.decodedValue, hm.trans hu.measuring, hf.trans hu.fault⟩

/-- A quiet run leaves a stopped timer as it is: TCLK counts only a running one (rule R104). -/
theorem runEvents_quiet_stoppedAs {is : List Instr} {s t : State} (hq : ∀ i ∈ is, quiet i = true)
    (hs : s.timerRunning = false) (h : runEvents is s = .next t) : StoppedAs s t := by
  refine runEvents_keeps (P := StoppedAs s) (fun i hi u v hu hv => ?_) ⟨hs, rfl, rfl⟩ h
  obtain rfl | hmain := quiet_iff.mp (hq i hi)
  · rw [exec_tclk, hu.stopped] at hv
    cases hv
    exact hu
  · obtain ⟨hc, hr, ho⟩ := exec_mainLoop_keeps_timer hv hmain
    exact ⟨hr.trans hu.stopped, hc.trans hu.timerCount, ho.trans hu.ovfPending⟩

/-! ## Pulses -/

/-- A pulse, an EDGE to start and an EDGE to complete, runs at legal counters and advances each of them once (rules R110,
R111). -/
theorem runEvents_pulse {s : State} (hm : s.measuring = false) (hP : s.pulseTick.toNat ≤ 271)
    (hF : s.flashTick.toNat ≤ 33) :
    ∃ t, runEvents [.edge, .edge] s = .next t ∧ t.measuring = false ∧
      t.pulseTick.toNat = (s.pulseTick.toNat + 1) % 272 ∧ t.flashTick.toNat = (s.flashTick.toNat + 1) % 34 := by
  have hp := advance_of_lt (n := pulsePeriod) (Nat.lt_succ_of_le hP)
  have hf := advance_of_lt (n := flashPeriod) (Nat.lt_succ_of_le hF)
  refine ⟨_, runEvents_cons.mpr ⟨_, exec_edge_starts hm hp hf, runEvents_cons.mpr ⟨_, exec_edge_completes rfl, rfl⟩⟩,
    rfl, ?_, ?_⟩
  · exact advance_toNat (by decide) hp
  · exact advance_toNat (by decide) hf

/-! ## The obligations -/

/-- Settles O19: the start EDGE sets the timer running at 0, the run between counts its TCLKs below 256 and keeps Measuring, so
the last EDGE completes with that count. -/
theorem pulseWidthIsTheNumberOfTclks : Obligations.PulseWidthIsTheNumberOfTclks := by
  intro is s t hm hc hq hle h
  obtain ⟨v, hrun, hlast⟩ := runEvents_append.mp h
  obtain ⟨u, hfirst, hquiet⟩ := runEvents_cons.mp hrun
  obtain ⟨hm', -⟩ | ⟨-, p, f, -, -, rfl⟩ := onEdge_ok_cases (execEdge_next_iff.mp hfirst)
  · cases hm.symm.trans hm'
  have hcount := (runEvents_quiet_timerCounted hq rfl hquiet).count
  have hmeas : v.measuring = true := (runEvents_quiet_sameDecoded hq hquiet).measuring
  obtain ⟨w, hedge, hw⟩ := runEvents_cons.mp hlast
  rw [exec_edge_completes hmeas] at hedge
  cases hedge
  cases hw
  refine ⟨?_, rfl, rfl, rfl, rfl⟩
  have hzero : s.timerCount.toNat = 0 := by rw [hc]; rfl
  calc v.timerCount.toNat
      = (s.timerCount.toNat + is.count .tclk) % 256 := hcount
    _ = is.count .tclk := by omega

/-- Settles O15, branch by branch of Measuring. -/
theorem edgeStartsOrCompletesAMeasurement : Obligations.EdgeStartsOrCompletesAMeasurement := by
  intro s hlegal
  cases hm : s.measuring with
  | false =>
    obtain ⟨hP, hF⟩ := hlegal hm
    exact exec_edge_starts hm (advance_eq_wrap hP) (advance_eq_wrap hF)
  | true =>
    rw [exec_edge_completes hm, completeMeasurement_eq]
    cases Config.ovfClrOnReset <;> simp [setFault]

/-- Settles O16: both counters advance by the one lemma, and an illegal one faults the EDGE. -/
theorem countersAdvanceModuloTheirPeriods : Obligations.CountersAdvanceModuloTheirPeriods :=
  ⟨advance_eq 271, advance_eq 33, fun _ => exec_edge_faults⟩

/-- Settles O17: the handler's effect, and the fallback's range whichever of its values the parameter is. -/
theorem timeoutForcesTheFallback : Obligations.TimeoutForcesTheFallback := by
  have hidx : Config.fallbackIndex.val < 14 := Config.fallbackIndex.isLt
  have hlow : 90 < fallbackValue.toNat := by rw [fallbackValue_toNat]; omega
  have hhigh : fallbackValue.toNat < 105 := by rw [fallbackValue_toNat]; omega
  refine ⟨fun _ => exec_tmo_stuck, fun s h => ?_, hlow, hhigh, modeOf_eq_on hlow hhigh⟩
  rw [exec_tmo_of_ovfPending h, onTimeout_eq]

/-- Settles O18, by induction on the number of pulses. -/
theorem tickCountersCountMeasurementStarts : Obligations.TickCountersCountMeasurementStarts := by
  intro n
  induction n with
  | zero =>
    intro s hm hP hF
    exact ⟨s, rfl, hm, by omega, by omega⟩
  | succ n ih =>
    intro s hm hP hF
    obtain ⟨u, hu, hum, huP, huF⟩ := runEvents_pulse hm hP hF
    obtain ⟨t, ht, htm, htP, htF⟩ := ih u hum (by omega) (by omega)
    refine ⟨t, ?_, htm, by omega, by omega⟩
    rw [List.replicate_succ, List.flatten_cons]
    exact runEvents_append.mpr ⟨u, hu, ht⟩

/-- Settles O20: the TMO stops the timer with nothing latched, and a quiet run keeps that and the decoded cells. -/
theorem timeoutFiresOncePerOverflow : Obligations.TimeoutFiresOncePerOverflow := by
  intro is s t hq h
  obtain ⟨u, htmo, hquiet⟩ := runEvents_cons.mp h
  obtain ⟨-, rfl⟩ := execTmo_next_iff.mp htmo
  obtain ⟨hd, hm, hf⟩ := runEvents_quiet_sameDecoded hq hquiet
  have hovf := (runEvents_quiet_stoppedAs hq rfl hquiet).ovfPending
  exact ⟨exec_tmo_stuck hovf, hf, hm, hd, fun _ => exec_edge_fault⟩

/-- Settles O21: the TMO leaves Measuring 0 and the count 0, so the EDGE takes the start branch. -/
theorem edgeAfterTimeoutStartsAMeasurement : Obligations.EdgeAfterTimeoutStartsAMeasurement := by
  intro s ho hP hF
  have hp := advance_of_lt (n := pulsePeriod) (Nat.lt_succ_of_le hP)
  have hf := advance_of_lt (n := flashPeriod) (Nat.lt_succ_of_le hF)
  refine ⟨_, runEvents_cons.mpr ⟨_, exec_tmo_of_ovfPending ho, runEvents_cons.mpr ⟨_, exec_edge_starts rfl hp hf, rfl⟩⟩,
    rfl, rfl, rfl, rfl, rfl, rfl, ?_, ?_⟩
  · exact advance_toNat (by decide) hp
  · exact advance_toNat (by decide) hf

end Sys2Proof.Machine
end

section
/-! PROOFS. The pattern family: the mode ranges (rule R120), the window tables as tilings (rules R122-R126), Generate's equation in
each mode (rules R127-R130, R133), and what a PCOMMIT writes in each. -/

namespace Sys2Proof.Machine

/-! ## Window tables that tile an interval -/

/-- The windows of `ws` follow one another from tick `a` to tick `b`, without a gap and without an overlap (rule R126). -/
def Tiles (a : Nat) : List Window → Nat → Prop
  | [], b => a = b
  | w :: ws, b => w.start = a ∧ a ≤ w.stop ∧ Tiles w.stop ws b

/-- The Flash windows tile 0..34 (rule R122). -/
theorem flashTable_tiles : Tiles 0 flashTable 35 := by
  simp [Tiles, flashTable]

/-- The SOS windows tile 0..271 (rule R124). -/
theorem sosTable_tiles : Tiles 0 sosTable 272 := by
  simp [Tiles, sosTable]

theorem Window.covers_iff {w : Window} {t : Nat} : w.covers t = true ↔ w.start ≤ t ∧ t < w.stop := by
  simp [Window.covers]

theorem lookup_cons_of_covers {w : Window} {t : Nat} (ws : List Window) (h : w.covers t = true) :
    lookup (w :: ws) t = some w.level := by
  simp [lookup, h]

theorem lookup_cons_of_not_covers {w : Window} {t : Nat} (ws : List Window) (h : ¬w.covers t = true) :
    lookup (w :: ws) t = lookup ws t := by
  simp [lookup, h]

theorem Tiles.le {a b : Nat} {ws : List Window} (h : Tiles a ws b) : a ≤ b := by
  induction ws generalizing a with
  | nil => exact Nat.le_of_eq h
  | cons w ws ih =>
    obtain ⟨-, hle, hws⟩ := h
    exact hle.trans (ih hws)

/-- A window of a tiling lies inside the tiled interval. -/
theorem Tiles.bounds_of_mem {a b : Nat} {ws : List Window} (h : Tiles a ws b) {w : Window} (hw : w ∈ ws) :
    a ≤ w.start ∧ w.stop ≤ b := by
  induction ws generalizing a with
  | nil => cases hw
  | cons v ws ih =>
    obtain ⟨hstart, hle, hws⟩ := h
    obtain rfl | hw := List.mem_cons.mp hw
    · exact ⟨hstart.ge, hws.le⟩
    · obtain ⟨hlow, hhigh⟩ := ih hws hw
      exact ⟨hle.trans hlow, hhigh⟩

/-- From the end of a tiling on, the lookup answers nothing (rule R126). -/
theorem Tiles.lookup_eq_none {a b t : Nat} {ws : List Window} (h : Tiles a ws b) (ht : b ≤ t) : lookup ws t = none := by
  refine Option.map_eq_none_iff.mpr (List.find?_eq_none.mpr fun w hw hc => ?_)
  have := (h.bounds_of_mem hw).2
  have := (Window.covers_iff.mp hc).2
  omega

/-- Every tick of the tiled interval lies in exactly one window, whose level the lookup answers (rule R126). -/
theorem Tiles.exists_window {a b t : Nat} {ws : List Window} (h : Tiles a ws b) (hat : a ≤ t) (htb : t < b) :
    ∃ w, w ∈ ws ∧ w.covers t = true ∧ lookup ws t = some w.level ∧ ∀ v ∈ ws, v.covers t = true → v = w := by
  induction ws generalizing a with
  | nil =>
    have : a = b := h
    omega
  | cons w ws ih =>
    obtain ⟨hstart, hle, hws⟩ := h
    by_cases ht : t < w.stop
    · have hw : w.covers t = true := Window.covers_iff.mpr ⟨by omega, ht⟩
      refine ⟨w, List.mem_cons_self, hw, lookup_cons_of_covers ws hw, fun v hv hc => ?_⟩
      obtain rfl | hv := List.mem_cons.mp hv
      · rfl
      · have := (hws.bounds_of_mem hv).1
        have := (Window.covers_iff.mp hc).1
        omega
    · have hw : ¬w.covers t = true := fun hc => ht (Window.covers_iff.mp hc).2
      obtain ⟨u, hu, hc, hl, huniq⟩ := ih hws (by omega)
      refine ⟨u, List.mem_cons_of_mem w hu, hc, by rw [lookup_cons_of_not_covers ws hw, hl], fun v hv hcv => ?_⟩
      obtain rfl | hv := List.mem_cons.mp hv
      · exact absurd hcv hw
      · exact huniq v hv hcv

/-- Whether an active window of the table holds the tick. -/
def activeAt (ws : List Window) (t : Nat) : Bool := (ws.filter (·.level = .active)).any (·.covers t)

theorem levelOf_decide_eq_active (l : Level) : levelOf (decide (l = .active)) = l := by
  cases l <;> rfl

/-- In a tiling the lookup answers Active exactly at the ticks of the active windows. -/
theorem Tiles.lookup_eq {a b t : Nat} {ws : List Window} (h : Tiles a ws b) (hat : a ≤ t) (htb : t < b) :
    lookup ws t = some (levelOf (activeAt ws t)) := by
  obtain ⟨w, hw, hc, hl, huniq⟩ := h.exists_window hat htb
  have hactive : activeAt ws t = decide (w.level = .active) := by
    rw [Bool.eq_iff_iff, decide_eq_true_iff, activeAt, List.any_eq_true]
    constructor
    · rintro ⟨v, hv, hcv⟩
      obtain ⟨hv, hlv⟩ := List.mem_filter.mp hv
      rw [← huniq v hv hcv]
      exact of_decide_eq_true hlv
    · exact fun hlw => ⟨w, List.mem_filter.mpr ⟨hw, decide_eq_true hlw⟩, hc⟩
  rw [hl, hactive, levelOf_decide_eq_active]

/-- A tiling table's pattern has the level of the active windows at each tick below the period (rules R123, R125). -/
theorem Tiles.tableOut_eq {b period t : Nat} {ws : List Window} (h : Tiles 0 ws b) (hb : period ≤ b) (ht : t < period) :
    tableOut ws period t = .ok (levelOf (activeAt ws t)) := by
  simp [tableOut, ht, h.lookup_eq t.zero_le (ht.trans_le hb)]

/-- The active windows of the Flash table hold the ticks of rule R123. -/
theorem activeAt_flashTable (t : Nat) : activeAt flashTable t = flashActive t := by
  simp [activeAt, flashTable, flashActive, Window.covers]

/-- The active windows of the SOS table are the source's nine (rule R124). -/
theorem activeAt_sosTable (t : Nat) : activeAt sosTable t = sosActive t := rfl

/-- The pattern of Flash at a legal tick (rule R123). -/
theorem flashOut_eq {t : FlashTick} (h : t.toNat ≤ 33) : flashOut t = .ok (levelOf (flashActive t.toNat)) :=
  activeAt_flashTable t.toNat ▸ flashTable_tiles.tableOut_eq (by decide) (Nat.lt_succ_of_le h)

/-- The pattern of SOS at a legal tick (rule R125). -/
theorem sosOut_eq {t : PulseTick} (h : t.toNat ≤ 271) : sosOut t = .ok (levelOf (sosActive t.toNat)) :=
  activeAt_sosTable t.toNat ▸ sosTable_tiles.tableOut_eq (by decide) (Nat.lt_succ_of_le h)

/-- The pattern of Blink at a legal tick (rule R121). -/
theorem blinkOut_eq {t : PulseTick} (h : t.toNat ≤ 271) : blinkOut t = .ok (levelOf (decide (t.toNat % 16 < 8))) :=
  if_pos (Nat.lt_succ_of_le h)

/-! ## Generate, mode by mode -/

section Dispatch
variable {n : Snapshot} {p : ModeCode}

/-- A dead-zone value changes nothing (rule R129). -/
theorem dispatchMode_undefined (h : modeOf n.dv = .undefined) : dispatchMode n p = .ok (holdDecision p) := by
  simp [dispatchMode, h]

theorem dispatchMode_off (h : modeOf n.dv = .off) : dispatchMode n p = .ok ⟨.level .inactive, 0, false, false⟩ := by
  simp [dispatchMode, h, driveDecision, Mode.code]

theorem dispatchMode_on (h : modeOf n.dv = .on) : dispatchMode n p = .ok ⟨.level .active, 1, false, false⟩ := by
  simp [dispatchMode, h, driveDecision, Mode.code]

theorem dispatchMode_blink (h : modeOf n.dv = .blink) :
    dispatchMode n p = driveDecision (blinkOut n.pulseTick) .blink false false := by
  simp [dispatchMode, h]

/-- In Flash the pattern goes on from the sampled tick. -/
theorem dispatchMode_flash (h : modeOf n.dv = .flash) :
    dispatchMode n 3 = driveDecision (flashOut n.flashTick) .flash false false := by
  simp [dispatchMode, h, Mode.code]

/-- An entry into Flash starts at tick 0 and asks for the clear (rule R128). -/
theorem dispatchMode_flash_entry (h : modeOf n.dv = .flash) (hp : p ≠ 3) :
    dispatchMode n p = .ok ⟨.level .active, 3, true, false⟩ := by
  simp only [dispatchMode, h]
  exact if_neg hp

/-- In SOS the pattern goes on from the sampled tick. -/
theorem dispatchMode_sos (h : modeOf n.dv = .sos) :
    dispatchMode n 4 = driveDecision (sosOut n.pulseTick) .sos false false := by
  simp [dispatchMode, h, Mode.code]

/-- An entry into SOS starts at tick 0 and asks for the clear (rule R128). -/
theorem dispatchMode_sos_entry (h : modeOf n.dv = .sos) (hp : p ≠ 4) :
    dispatchMode n p = .ok ⟨.level .active, 4, false, true⟩ := by
  simp only [dispatchMode, h]
  exact if_neg hp

/-- An iteration that samples Measuring = 0 with a legal PrevMode evaluates the mode (rule R127). -/
theorem generate_evaluated (hp : p.toNat ≤ 5) (hm : n.measuring = false) : generate n p = dispatchMode n p := by
  simp [generate_of_legal hp, hm]

/-- Generate reads the snapshot through the gate and the case analysis alone. -/
theorem generate_congr {n' : Snapshot} (hm : n.measuring = n'.measuring) (hd : dispatchMode n p = dispatchMode n' p) :
    generate n p = generate n' p := by
  simp [generate, hm, hd]

end Dispatch

/-! ## A PCOMMIT's writes -/

/-- PCOMMIT's write-back as a record update (rule R142). -/
theorem commit_eq (d : Decision) (s : State) :
    commit d s =
      { s with flashTick := if d.clrF then 0 else s.flashTick, pulseTick := if d.clrP then 0 else s.pulseTick,
               prevMode := d.prevMode, lightOut := (supervise s.snap.fault d.out s.lightOut).1,
               indicatorOut := (supervise s.snap.fault d.out s.lightOut).2, acks := s.acks + 1, pollPhase := .idle } :=
  rfl

/-- The level Supervise gives (rule R143): a sampled Fault forces Active over whatever the generator decides. -/
theorem supervise_fst_hold (f : Bool) (c : Level) : (supervise f .hold c).1 = if f then .active else c := by
  cases f <;> rfl

theorem supervise_fst_active (f : Bool) (c : Level) : (supervise f (.level .active) c).1 = .active := by
  cases f <;> rfl

/-- Supervising a second time with the level of the first changes nothing. -/
theorem supervise_supervise (f : Bool) (g : Drive) (c : Level) :
    supervise f g (supervise f g c).1 = supervise f g c := by
  cases f <;> cases g <;> rfl

/-- An evaluated PCOMMIT writes the mode's decision (rule R142). -/
theorem exec_pcommit_evaluated {s : State} {d : Decision} (hs : s.pollPhase = .snapped)
    (hm : s.snap.measuring = false) (hp : s.prevMode.toNat ≤ 5) (hd : dispatchMode s.snap s.prevMode = .ok d) :
    exec .pcommit s = .next (commit d s) :=
  execPcommit_next_iff.mpr ⟨hs, d, (generate_evaluated hp hm).trans hd, rfl⟩

/-! ## A second iteration -/

/-- The snapshot `n` with the clears that `d` asks for. -/
def Decision.clearSnapshot (d : Decision) (n : Snapshot) : Snapshot :=
  { n with pulseTick := if d.clrP then 0 else n.pulseTick, flashTick := if d.clrF then 0 else n.flashTick }

/-- The decision `d` without its clears. -/
def Decision.withoutClears (d : Decision) : Decision := ⟨d.out, d.prevMode, false, false⟩

/-- After the commit of `d` the case analysis answers `d` again, now as no entry: an entry's output is that of tick 0 (rules
R128, R130). -/
theorem dispatchMode_again {n : Snapshot} {p : ModeCode} {d : Decision} (h : dispatchMode n p = .ok d) :
    dispatchMode (d.clearSnapshot n) d.prevMode = .ok d.withoutClears := by
  cases hv : modeOf n.dv with
  | undefined =>
    rw [dispatchMode_undefined hv] at h
    cases h
    exact dispatchMode_undefined hv
  | off =>
    rw [dispatchMode_off hv] at h
    cases h
    exact dispatchMode_off hv
  | on =>
    rw [dispatchMode_on hv] at h
    cases h
    exact dispatchMode_on hv
  | blink =>
    rw [dispatchMode_blink hv] at h
    obtain ⟨l, -, rfl⟩ := driveDecision_ok_iff.mp h
    exact (dispatchMode_blink hv).trans h
  | flash =>
    by_cases hp : p = 3
    · rw [hp, dispatchMode_flash hv] at h
      obtain ⟨l, -, rfl⟩ := driveDecision_ok_iff.mp h
      exact (dispatchMode_flash hv).trans h
    · rw [dispatchMode_flash_entry hv hp] at h
      cases h
      exact dispatchMode_flash hv
  | sos =>
    by_cases hp : p = 4
    · rw [hp, dispatchMode_sos hv] at h
      obtain ⟨l, -, rfl⟩ := driveDecision_ok_iff.mp h
      exact (dispatchMode_sos hv).trans h
    · rw [dispatchMode_sos_entry hv hp] at h
      cases h
      exact dispatchMode_sos hv

/-- A legal PrevMode gives a legal one (rules R29, R75). -/
theorem generate_keeps_legalMode {n : Snapshot} {p : ModeCode} {d : Decision} (h : generate n p = .ok d) :
    legalMode d.prevMode := by
  rw [generate_prevMode h]
  split
  · exact legalMode_code _
  · exact (generate_ok_cases h).1

/-- After the commit of `d` Generate answers `d` again, with no clear (rule R130). -/
theorem generate_again {n : Snapshot} {p : ModeCode} {d : Decision} (h : generate n p = .ok d) :
    generate (d.clearSnapshot n) d.prevMode = .ok d.withoutClears := by
  obtain ⟨-, ⟨-, rfl⟩ | ⟨hm, hd⟩⟩ := generate_ok_cases h
  · exact h
  · exact (generate_evaluated (n := d.clearSnapshot n) (generate_keeps_legalMode h) hm).trans (dispatchMode_again hd)

/-- One iteration of the main loop, its two steps with nothing between (rule R140). -/
def iterate (d : Decision) (s : State) : State := commit d (setPollPhase .snapped (takeSnapshot s))

section Iterate
variable (d : Decision) (s : State)

@[simp] theorem iterate_fault : (iterate d s).fault = s.fault := rfl
@[simp] theorem iterate_prevMode : (iterate d s).prevMode = d.prevMode := rfl
@[simp] theorem iterate_pulseTick : (iterate d s).pulseTick = if d.clrP then 0 else s.pulseTick := rfl
@[simp] theorem iterate_flashTick : (iterate d s).flashTick = if d.clrF then 0 else s.flashTick := rfl
@[simp] theorem iterate_lightOut : (iterate d s).lightOut = (supervise s.fault d.out s.lightOut).1 := rfl
@[simp] theorem iterate_indicatorOut : (iterate d s).indicatorOut = (supervise s.fault d.out s.lightOut).2 := rfl

/-- The next iteration samples the cells as the first did, its clears aside. -/
theorem takeSnapshot_iterate : (takeSnapshot (iterate d s)).snap = d.clearSnapshot (takeSnapshot s).snap := rfl

end Iterate

/-- An iteration that answers commits Generate's decision on the snapshot of its own state. -/
theorem exists_decision_of_iteration {s t : State} (h : runEvents [.psnap, .pcommit] s = .next t) :
    ∃ d, generate (takeSnapshot s).snap s.prevMode = .ok d ∧ t = iterate d s := by
  obtain ⟨u, hsnap, hcommit⟩ := runEvents_cons.mp h
  obtain ⟨v, hcommit, hv⟩ := runEvents_cons.mp hcommit
  cases hv
  obtain ⟨-, rfl⟩ := execPsnap_next_iff.mp hsnap
  obtain ⟨-, d, hd, rfl⟩ := execPcommit_next_iff.mp hcommit
  exact ⟨d, hd, rfl⟩

/-! ## The obligations -/

/-- Settles O24: the ranges are disjoint, so each test of the chain decides its mode. -/
theorem modeRangesAreExclusive : Obligations.ModeRangesAreExclusive := by
  intro v
  unfold modeOf
  simp only [offLow, onLow, blinkLow, flashLow, sosLow, sosHigh]
  split_ifs
  all_goals
    simp
    omega

/-- Settles O25: the square wave, and that only Flash and SOS ask for a clear. -/
theorem blinkIsASquareWave : Obligations.BlinkIsASquareWave := by
  refine ⟨fun t ht => ?_, fun n p d hlow hhigh h => ?_⟩
  · rw [blinkOut_eq ht]
    simp [levelOf]
  · obtain ⟨-, -, hblink, -⟩ := modeRangesAreExclusive n.dv
    have hv : modeOf n.dv = .blink := hblink.mpr ⟨hlow, hhigh⟩
    obtain ⟨-, ⟨-, rfl⟩ | ⟨-, hd⟩⟩ := generate_ok_cases h
    · exact ⟨rfl, rfl⟩
    · rw [dispatchMode_blink hv] at hd
      obtain ⟨l, -, rfl⟩ := driveDecision_ok_iff.mp hd
      exact ⟨rfl, rfl⟩

/-- Settles O26: the table as data, and its levels from its active windows. -/
theorem flashTableGivesTwoShortPulses : Obligations.FlashTableGivesTwoShortPulses :=
  ⟨rfl, fun _ => flashOut_eq⟩

/-- Settles O27: the table as data, and its levels from its active windows. -/
theorem sosTableSpellsSos : Obligations.SosTableSpellsSos :=
  ⟨rfl, fun _ => sosOut_eq⟩

/-- Settles O28: both tables are tilings from tick 0. -/
theorem eachTickLiesInOneWindow : Obligations.EachTickLiesInOneWindow :=
  ⟨fun t => flashTable_tiles.exists_window t.zero_le, fun t => sosTable_tiles.exists_window t.zero_le,
    fun _ => flashTable_tiles.lookup_eq_none, fun _ => sosTable_tiles.lookup_eq_none⟩

/-- Settles O29: the gate, then each mode by its equation, with the legal tick's level. -/
theorem generateFollowsTheModeTable : Obligations.GenerateFollowsTheModeTable := by
  intro n p hp hP hF
  obtain ⟨hoff, hon, hblink, hflash, hsos, hundef⟩ := modeRangesAreExclusive n.dv
  rw [generate_of_legal hp]
  split_ifs with hm h1 h2 h3 h4 hp3 h5 hp4
  · rfl
  · exact dispatchMode_off (hoff.mpr h1)
  · exact dispatchMode_on (hon.mpr h2)
  · rw [dispatchMode_blink (hblink.mpr h3), blinkOut_eq hP]
    rfl
  · rw [hp3, dispatchMode_flash (hflash.mpr h4), flashOut_eq hF]
    rfl
  · exact dispatchMode_flash_entry (hflash.mpr h4) hp3
  · rw [hp4, dispatchMode_sos (hsos.mpr h5), sosOut_eq hP]
    rfl
  · exact dispatchMode_sos_entry (hsos.mpr h5) hp4
  · exact dispatchMode_undefined (hundef.mpr (by omega))

/-- Settles O30: the equations of Off and On name no tick. -/
theorem offAndOnIgnoreTheTickCounters : Obligations.OffAndOnIgnoreTheTickCounters := by
  intro n p q f hv
  obtain ⟨hoff, hon, -⟩ := modeRangesAreExclusive n.dv
  refine generate_congr rfl ?_
  obtain hv | hv := hv
  · rw [dispatchMode_off, dispatchMode_off] <;> exact hoff.mpr hv
  · rw [dispatchMode_on, dispatchMode_on] <;> exact hon.mpr hv

/-- Settles O35: the dead zone's decision holds, and only the supervisor acts. -/
theorem deadZoneHoldsTheOutput : Obligations.DeadZoneHoldsTheOutput := by
  intro s hs hm hp hv
  obtain ⟨-, -, -, -, -, hundef⟩ := modeRangesAreExclusive s.snap.dv
  rw [exec_pcommit_evaluated hs hm hp (dispatchMode_undefined (hundef.mpr hv)), commit_eq, supervise_snd]
  simp [holdDecision, supervise_fst_hold]

/-- Settles O36: the entry's decision, whose level the supervisor cannot change. -/
theorem flashEntryRestartsThePattern : Obligations.FlashEntryRestartsThePattern := by
  intro s hs hm hp hp3 hlow hhigh
  obtain ⟨-, -, -, hflash, -⟩ := modeRangesAreExclusive s.snap.dv
  rw [exec_pcommit_evaluated hs hm hp (dispatchMode_flash_entry (hflash.mpr ⟨hlow, hhigh⟩) hp3), commit_eq, supervise_snd,
    supervise_fst_active]
  simp

/-- Settles O37: the entry's decision, whose level the supervisor cannot change. -/
theorem sosEntryRestartsThePattern : Obligations.SosEntryRestartsThePattern := by
  intro s hs hm hp hp4 hlow hhigh
  obtain ⟨-, -, -, -, hsos, -⟩ := modeRangesAreExclusive s.snap.dv
  rw [exec_pcommit_evaluated hs hm hp (dispatchMode_sos_entry (hsos.mpr ⟨hlow, hhigh⟩) hp4), commit_eq, supervise_snd,
    supervise_fst_active]
  simp

/-- Settles O39: the second iteration decides as the first, without clears, and supervising again changes nothing. -/
theorem secondIterationRepeatsTheOutputs : Obligations.SecondIterationRepeatsTheOutputs := by
  intro s t u hst htu
  obtain ⟨d, hd, rfl⟩ := exists_decision_of_iteration hst
  obtain ⟨e, he, rfl⟩ := exists_decision_of_iteration htu
  rw [takeSnapshot_iterate] at he
  cases he.symm.trans (generate_again hd)
  simp [Decision.withoutClears, supervise_supervise]

end Sys2Proof.Machine
end

section
/-! PROOFS. The main-loop family: when PSNAP and PCOMMIT run, get stuck and fault (rules R141, R142), what the supervisor and the
gate leave to the generator (rules R143, R146), and who emits an acknowledge (rule R144). -/

namespace Sys2Proof.Machine

/-! ## The main loop's two steps, outcome by outcome -/

section MainLoop
variable {s : State}

/-- An idle main loop takes its snapshot (rule R141). -/
theorem exec_psnap_snapshots (h : s.pollPhase = .idle) : exec .psnap s = .next (setPollPhase .snapped (takeSnapshot s)) :=
  execPsnap_next_iff.mpr ⟨h, rfl⟩

/-- A PSNAP with a snapshot already held is stuck (rule R73). -/
theorem exec_psnap_stuck (h : s.pollPhase = .snapped) : exec .psnap s = .refused (.notEnabled "PSNAP") :=
  (exec_notEnabled_iff (i := .psnap) rfl).mpr (by simp [enabled, h])

/-- A PCOMMIT with no snapshot held is stuck (rule R73). -/
theorem exec_pcommit_stuck (h : s.pollPhase = .idle) : exec .pcommit s = .refused (.notEnabled "PCOMMIT") :=
  (exec_notEnabled_iff (i := .pcommit) rfl).mpr (by simp [enabled, h])

/-- A PCOMMIT writes the decision that Generate answers (rule R142). -/
theorem exec_pcommit_commits {d : Decision} (hs : s.pollPhase = .snapped) (hd : generate s.snap s.prevMode = .ok d) :
    exec .pcommit s = .next (commit d s) :=
  execPcommit_next_iff.mpr ⟨hs, d, hd, rfl⟩

/-- A PCOMMIT faults as Generate does (rule R142). -/
theorem exec_pcommit_faults {u : Unreachable} (hs : s.pollPhase = .snapped)
    (hu : generate s.snap s.prevMode = .error u) : exec .pcommit s = .fault (.unreachable u) := by
  simp [exec, execPcommit, enabled, hs, hu]

end MainLoop

/-- With Snap.Measuring = 1 Generate holds, whatever the value and the ticks of the snapshot are (rule R146). -/
theorem generate_gated {n : Snapshot} {p : ModeCode} (hp : p.toNat ≤ 5) (hm : n.measuring = true) :
    generate n p = .ok (holdDecision p) := by
  rw [generate_of_legal hp, if_pos hm]

/-- A commit that holds leaves PrevMode and the counters alone; only the supervisor acts (rules R129, R146). -/
theorem commit_holdDecision (s : State) :
    commit (holdDecision s.prevMode) s =
      { s with lightOut := if s.snap.fault then .active else s.lightOut,
               indicatorOut := if s.snap.fault then .active else .inactive, acks := s.acks + 1, pollPhase := .idle } := by
  rw [commit_eq, supervise_snd]
  simp [holdDecision, supervise_fst_hold]

/-! ## Acknowledges -/

@[simp] theorem countOnce_acks (s : State) : (countOnce s).acks = s.acks := by
  obtain ⟨c, o, h⟩ := countOnce_eq_update s
  rw [h]

/-- Only PCOMMIT and RST write the record of acknowledges (rule R144). -/
theorem exec_keeps_acks {i : Instr} {s t : State} (h : exec i s = .next t) (hc : i ≠ .pcommit) (hr : i ≠ .rst) :
    t.acks = s.acks := by
  have hcases := exec_next_cases h
  simp only [hc, hr, false_and, false_or] at hcases
  rcases hcases with
    ⟨-, -, rfl⟩ | ⟨-, -, p, f, -, -, rfl⟩ | ⟨-, -, rfl⟩ | ⟨-, -, rfl⟩ | ⟨-, -, rfl⟩ | ⟨-, -, rfl⟩ | ⟨-, rfl⟩ | ⟨-, rfl⟩ |
    ⟨-, rfl⟩
  all_goals simp [completeMeasurement, onTimeout]

/-! ## The obligations -/

/-- Settles O32: stuck, fault or commit, as the phase and Generate say; at legal values Generate answers. -/
theorem commitWritesTheDecision : Obligations.CommitWritesTheDecision := by
  refine ⟨fun _ => exec_pcommit_stuck, fun _ _ => exec_pcommit_faults, fun s hs hp hP hF => ?_⟩
  obtain ⟨d, hd⟩ := generate_total hp hP hF
  exact ⟨d, hd, (exec_pcommit_commits hs hd).trans (by rw [commit_eq])⟩

/-- Settles O34: the gate holds, and the commit of a hold is the supervisor's alone. -/
theorem measuringGateSkipsThePattern : Obligations.MeasuringGateSkipsThePattern := by
  intro s hs hm hp
  rw [exec_pcommit_commits hs (generate_gated hp hm), commit_holdDecision]

/-- Settles O41: a commit counts one, and every other event but RST keeps the count. -/
theorem onlyCommitEmitsAnAcknowledge : Obligations.OnlyCommitEmitsAnAcknowledge := by
  intro i s t h hr
  split
  next hc =>
    subst hc
    obtain ⟨-, d, -, rfl⟩ := execPcommit_next_iff.mp h
    exact commit_acks d s
  next hc => exact exec_keeps_acks h hc hr

/-- Settles O31, phase by phase. -/
theorem snapshotCopiesTheSharedCells : Obligations.SnapshotCopiesTheSharedCells :=
  ⟨fun _ => exec_psnap_snapshots, fun _ => exec_psnap_stuck⟩

/-- Settles O33: Supervise's equations, and that a PCOMMIT that answers is the commit of Generate's decision. -/
theorem faultForcesBothOutputsActive : Obligations.FaultForcesBothOutputsActive := by
  refine ⟨fun g cur l => ⟨supervise_fault g cur, supervise_hold cur, supervise_level l cur⟩, fun s t h => ?_⟩
  obtain ⟨-, d, hd, rfl⟩ := execPcommit_next_iff.mp h
  exact ⟨d, hd, rfl⟩

end Sys2Proof.Machine
end

section
/-! PROOFS. The exceptions family: the two events that can fault, and the values at which they do (rules R111, R126, R142,
R167). -/

namespace Sys2Proof.Machine

/-- EDGE faults exactly as `on_edge()` does (rule R111). -/
theorem execEdge_fault_iff {s : State} {f : Fault} :
    execEdge s = .fault f ↔ ∃ u, onEdge Config.ovfClrOnReset s = .error u ∧ f = .unreachable u := by
  cases he : onEdge Config.ovfClrOnReset s <;> simp [execEdge, he, eq_comm]

/-- PCOMMIT faults exactly when a snapshot is held and Generate faults (rule R142). -/
theorem execPcommit_fault_iff {s : State} {f : Fault} :
    execPcommit s = .fault f ↔
      s.pollPhase = .snapped ∧ ∃ u, generate s.snap s.prevMode = .error u ∧ f = .unreachable u := by
  cases hg : generate s.snap s.prevMode <;> cases hp : s.pollPhase <;> simp [execPcommit, enabled, hp, hg, eq_comm]

/-- A reserved PrevMode code is a fault, in a gated iteration too (rule R75, U8; notes/assumptions/9.md). -/
theorem generate_of_reserved {p : ModeCode} (n : Snapshot) (hp : 5 < p.toNat) : generate n p = .error .mode := by
  simp [generate, (Mode.ofCode_eq_none_iff p).mpr hp]

/-- The case analysis of an evaluated iteration faults only at an illegal snapshot tick (rule R126). -/
theorem dispatchMode_error {n : Snapshot} {p : ModeCode} {u : Unreachable} (h : dispatchMode n p = .error u) :
    271 < n.pulseTick.toNat ∨ 33 < n.flashTick.toNat := by
  by_contra hlegal
  obtain ⟨d, hd⟩ := dispatchMode_total (n := n) p (by omega) (by omega)
  cases h.symm.trans hd

/-- Generate faults only at a reserved PrevMode, or in an evaluated iteration at an illegal snapshot tick (rules R75, R126). -/
theorem generate_error {n : Snapshot} {p : ModeCode} {u : Unreachable} (h : generate n p = .error u) :
    (u = .mode ∧ 5 < p.toNat) ∨
      (n.measuring = false ∧ (271 < n.pulseTick.toNat ∨ 33 < n.flashTick.toNat)) := by
  obtain hp | hp := Nat.lt_or_ge 5 p.toNat
  · cases h.symm.trans (generate_of_reserved n hp)
    exact .inl ⟨rfl, hp⟩
  · cases hm : n.measuring with
    | true => cases h.symm.trans (generate_gated hp hm)
    | false => exact .inr ⟨rfl, dispatchMode_error ((generate_evaluated hp hm).symm.trans h)⟩

/-- Settles O50: only EDGE and PCOMMIT fault, and each as its handler or Generate does. -/
theorem faultsOnlyOnExcludedValues : Obligations.FaultsOnlyOnExcludedValues := by
  intro i s f h
  obtain ⟨rfl, -⟩ | ⟨rfl, -⟩ := exec_fault_cases h
  · obtain ⟨u, hu, rfl⟩ := execEdge_fault_iff.mp h
    obtain ⟨hm, rfl, hticks⟩ := onEdge_error hu
    exact .inl ⟨rfl, rfl, hm, hticks⟩
  · obtain ⟨hs, u, hu, rfl⟩ := execPcommit_fault_iff.mp h
    exact .inr ⟨rfl, hs, (generate_error hu).imp_left fun ⟨hmode, hp⟩ => ⟨congrArg Fault.unreachable hmode, hp⟩⟩

end Sys2Proof.Machine
end

section
/-! PROOFS. Reset and the hazards: RST and the state after it (rules R180-R184), the interleavings of the decoder, the timer and
the main loop (rules R187-R191), and the runs of a block left to its environment (rules R194, R196). -/

namespace Sys2Proof.Machine

/-! ## Free runs -/

/-- Under the invariants an enabled step answers (rules R40, R73). -/
theorem exec_total_of_enabled {s : State} (hs : BlockInv s) {i : Instr} (hi : enabled s i = true) :
    ∃ t, exec i s = .next t := by
  cases h : exec i s with
  | next t => exact ⟨t, rfl⟩
  | fault f => exact absurd h (exec_ne_fault hs i f)
  | refused r => cases hi.symm.trans (exec_refused_cases h).1

/-- A free step answers a state that meets the invariants and leaves the next choice free (rules R56, R196). -/
theorem step_free_total {s : State} (hs : BlockInv s) (ht : s.trace = []) :
    ∃ t, step s = .next t ∧ BlockInv t ∧ t.trace = [] := by
  obtain ⟨i, hi, hstep⟩ := step_free ht
  have hs' : BlockInv { s with choices := s.choices + 1 } := hs.withChoices s.trace (s.choices + 1)
  have hi' : enabled { s with choices := s.choices + 1 } i = true := by cases i <;> exact hi
  obtain ⟨t, h⟩ := exec_total_of_enabled hs' hi'
  exact ⟨t, hstep.trans h, exec_keeps_blockInv (wellFormed_of_enabled hi) hs' h, (exec_keeps_environment h).1.trans ht⟩

/-! ## Fair runs -/

/-- An agent's event that is no EDGE, TMO or RST is quiet. -/
theorem quiet_of_wellFormed {i : Instr} (hi : i.wellFormed = true) (he : i ≠ .edge) (ht : i ≠ .tmo) (hr : i ≠ .rst) :
    quiet i = true := by
  revert hi he ht hr
  cases i <;> decide

/-- A timeout leaves Fault set with the fallback and no measurement (rule R112). -/
theorem exec_tmo_decoded {s t : State} (h : exec .tmo s = .next t) :
    t.fault = true ∧ t.decodedValue = fallbackValue ∧ t.measuring = false := by
  obtain ⟨-, rfl⟩ := execTmo_next_iff.mp h
  exact ⟨rfl, rfl, rfl⟩

/-- A latched overflow stays latched while the timer counts (rule R28). -/
theorem TimerCounted.keeps_ovfPending {j : Nat} {s t : State} (h : TimerCounted j s t) (hs : s.ovfPending = true) :
    t.ovfPending = true := by
  simp [h.overflow, hs]

/-- 256 counts or more latch the overflow, whatever count they start from (rule R105). -/
theorem TimerCounted.latches_ovfPending {j : Nat} {s t : State} (h : TimerCounted j s t) (hj : 256 ≤ j) :
    t.ovfPending = true := by
  have hsum : 256 ≤ s.timerCount.toNat + j := by omega
  simp [h.overflow, hsum]

section Run
variable {event : Nat → Instr} {state : Nat → State} {n : Nat}

/-- Between two points of a stretch that is quiet from `n` on, a running timer counts (rule R106). -/
theorem IsRun.timerCounted (hrun : IsRun event state) (hq : ∀ m, n ≤ m → quiet (event m) = true) {m k : Nat} (hm : n ≤ m)
    (hs : (state m).timerRunning = true) (hk : m ≤ k) : ∃ j, TimerCounted j (state m) (state k) := by
  induction k, hk using Nat.le_induction with
  | base => exact ⟨0, .of_timer_eq hs rfl rfl rfl⟩
  | succ k hk ih =>
    obtain ⟨j, hj⟩ := ih
    exact ⟨_, hj.trans (exec_quiet_timerCounted (hq k (hm.trans hk)) hj.running (hrun k).2)⟩

/-- In a fair run that is quiet from some point on, a running timer counts without bound: another TCLK always comes. -/
theorem IsRun.counts_unboundedly (hrun : IsRun event state) (hfair : WeaklyFair event state)
    (hq : ∀ m, n ≤ m → quiet (event m) = true) (hs : (state n).timerRunning = true) (c : Nat) :
    ∃ m j, n ≤ m ∧ c ≤ j ∧ TimerCounted j (state n) (state m) := by
  induction c with
  | zero => exact ⟨n, 0, le_rfl, le_rfl, .of_timer_eq hs rfl rfl rfl⟩
  | succ c ih =>
    obtain ⟨m, j, hm, hj, hcounted⟩ := ih
    have hstays : ∀ k, m ≤ k → (state k).timerRunning = true := fun k hk => by
      obtain ⟨l, hl⟩ := hrun.timerCounted hq hm hcounted.running hk
      exact hl.running
    obtain ⟨k, hk, htclk⟩ := hfair.timerClock m hstays
    obtain ⟨l, hl⟩ := hrun.timerCounted hq hm hcounted.running hk
    have hone : TimerCounted 1 (state k) (state (k + 1)) :=
      exec_quiet_timerCounted (i := .tclk) rfl hl.running (htclk ▸ (hrun k).2)
    exact ⟨k + 1, j + l + 1, by omega, by omega, (hcounted.trans hl).trans hone⟩

/-- A fair run with a running timer is not quiet for ever: the count wraps, the overflow stays latched, and the dispatcher
takes the TMO. -/
theorem IsRun.not_quiet_forever (hrun : IsRun event state) (hfair : WeaklyFair event state)
    (hs : (state n).timerRunning = true) : ¬ ∀ m, n ≤ m → quiet (event m) = true := by
  intro hq
  obtain ⟨m, j, hm, hj, hcounted⟩ := hrun.counts_unboundedly hfair hq hs 256
  have hlatched : ∀ k, m ≤ k → (state k).ovfPending = true := fun k hk => by
    obtain ⟨l, hl⟩ := hrun.timerCounted hq hm hcounted.running hk
    exact hl.keeps_ovfPending (hcounted.latches_ovfPending hj)
  obtain ⟨k, hk, htmo⟩ := hfair.dispatcher m hlatched
  have hquiet : quiet .tmo = true := htmo ▸ hq k (hm.trans hk)
  cases hquiet

end Run

/-! ## The obligations -/

/-- Settles O49, by induction on the number of steps: each free step answers and leaves what the next one needs. -/
theorem freeRunsNeverStop : Obligations.FreeRunsNeverStop := by
  intro n
  induction n with
  | zero => exact fun s hs ht => ⟨s, rfl, hs, ht⟩
  | succ n ih =>
    intro s hs ht
    obtain ⟨u, hstep, hu, hut⟩ := step_free_total hs ht
    obtain ⟨t, hrun, hinv⟩ := ih u hu hut
    refine ⟨t, ?_, hinv⟩
    simp only [Host.Core.run, Host.Check.core_step, hstep]
    exact hrun

/-- Settles O55: with no TMO the run would be quiet for ever, which fairness excludes; and a TMO leaves what is claimed. -/
theorem fairRunsTimeOutAMeasurementWithoutEdges : Obligations.FairRunsTimeOutAMeasurementWithoutEdges := by
  intro event state hrun hfair n hs hno
  have htmo : ∃ m, n ≤ m ∧ event m = .tmo := by
    by_contra! hnone
    refine hrun.not_quiet_forever hfair hs fun m hm => ?_
    obtain ⟨hedge, hrst⟩ := hno m hm
    exact quiet_of_wellFormed (hrun m).1 hedge (hnone m hm) hrst
  obtain ⟨m, hm, he⟩ := htmo
  exact ⟨m + 1, Nat.le_succ_of_le hm, exec_tmo_decoded (he ▸ (hrun m).2)⟩

/-- Settles O22: the completion's branch for each value of the parameter; where the latch stays, a further EDGE takes the start
branch and leaves it latched, and the TMO's handler overwrites both. -/
theorem edgeAheadOfTimeoutDecodesTheWrappedCount : Obligations.EdgeAheadOfTimeoutDecodesTheWrappedCount := by
  intro s fb hm ho
  have hcompletes (b : Bool) : onEdge b s = .ok (setFault false (completeMeasurement b s)) := by simp [onEdge, hm]
  refine ⟨⟨_, hcompletes true, rfl, rfl, rfl, by simp [completeMeasurement]⟩,
    ⟨_, hcompletes false, rfl, rfl, rfl, by simp [completeMeasurement, ho], rfl, rfl, fun b hb => ?_⟩⟩
  obtain ⟨hrunning, -⟩ | ⟨-, p, f, -, -, rfl⟩ := onEdge_ok_cases hb
  · cases hrunning
  · exact ⟨rfl, by simp [completeMeasurement, ho], rfl, rfl, rfl⟩

/-- Settles O23: a quiet run writes no decoded cell, and leaves the stopped timer with its count and nothing latched. -/
theorem signalLostWhileIdleGivesNoTimeout : Obligations.SignalLostWhileIdleGivesNoTimeout := by
  intro is s t hq hs ho h
  obtain ⟨hd, hm, hf⟩ := runEvents_quiet_sameDecoded hq h
  obtain ⟨-, hc, hovf⟩ := runEvents_quiet_stoppedAs hq hs h
  exact ⟨hd, hf, hm, hc, exec_tmo_stuck (hovf.trans ho)⟩

/-- Settles O38: the EDGE advances both counters, and the commit of the entry, decided on the snapshot taken before it, clears
PulseTick alone. -/
theorem entryLosesAConcurrentAdvance : Obligations.EntryLosesAConcurrentAdvance := by
  intro s hidle hm hp hp4 hlow hhigh hP hF
  have hpulse := advance_of_lt (n := pulsePeriod) (Nat.lt_succ_of_le hP)
  have hflash := advance_of_lt (n := flashPeriod) (Nat.lt_succ_of_le hF)
  obtain ⟨-, -, -, -, hsos, -⟩ := modeRangesAreExclusive s.decodedValue
  have hentry : dispatchMode (takeSnapshot s).snap s.prevMode = .ok ⟨.level .active, 4, false, true⟩ :=
    dispatchMode_sos_entry (hsos.mpr ⟨hlow, hhigh⟩) hp4
  refine ⟨_, runEvents_cons.mpr ⟨_, exec_psnap_snapshots hidle, runEvents_cons.mpr ⟨_, exec_edge_starts hm hpulse hflash,
    runEvents_cons.mpr ⟨_, exec_pcommit_evaluated rfl hm hp hentry, rfl⟩⟩⟩, rfl, rfl, ?_, rfl, ?_⟩
  · exact supervise_fst_active _ _
  · exact advance_toNat (by decide) hflash

/-- Settles O40: Generate decides alike in both runs, and the supervisor reads only Snap.Fault and LightOut besides. -/
theorem outputsDependOnTheSnapshotOnly : Obligations.OutputsDependOnTheSnapshotOnly := by
  intro s s' t t' hsnap hprev hlight h h'
  obtain ⟨-, d, hd, rfl⟩ := execPcommit_next_iff.mp h
  obtain ⟨-, d', hd', rfl⟩ := execPcommit_next_iff.mp h'
  rw [hsnap, hprev] at hd
  cases hd.symm.trans hd'
  simp [hsnap, hlight]

/-- Settles O44, cell by cell of `resetCells`. -/
theorem resetRestoresEveryCell : Obligations.ResetRestoresEveryCell :=
  ⟨execRst_next_iff.mpr rfl, fun s => ⟨resetCells s, execRst_next_iff.mpr rfl, rfl, rfl, rfl, rfl, rfl, rfl, rfl, rfl, rfl,
    rfl, rfl, rfl, rfl⟩⟩

/-- Settles O45: reset leaves the main loop idle, nothing latched and both counters at 0, which advance to 1. -/
theorem resetIsTheLaunchState : Obligations.ResetIsTheLaunchState := by
  intro s t h
  cases execRst_next_iff.mp h
  have hpulse : advance pulsePeriod (resetCells s).pulseTick = .ok 1 := rfl
  have hflash : advance flashPeriod (resetCells s).flashTick = .ok 1 := rfl
  exact ⟨rfl, rfl, rfl, ⟨_, exec_psnap_snapshots rfl⟩, exec_pcommit_stuck rfl, exec_tmo_stuck rfl,
    _, exec_edge_starts rfl hpulse hflash, rfl, rfl, rfl⟩

end Sys2Proof.Machine
end
